-- ==== Sys2Proof/Word.lean ====
section
/-! DEFINITION. The widths of the block (spec/10_state.md R17, spec/30_encoding.md R57): bytes and 16-bit fields.
Lengths, counts and positions are natural numbers (spec/00_scope.md R8: unbounded integers). -/

namespace Sys2Proof

/-- One byte of a stream, a length byte, a system id or a command id. -/
abbrev Byte := BitVec 8

/-- A 16-bit field: hardwareId, sequence, TX_SEQ. -/
abbrev Word16 := BitVec 16

/-- A byte string, first byte first (spec/00_scope.md R7). -/
abbrev Bytes := List Byte

end Sys2Proof
end

