-- ==== Sys2Proof/Config.lean ====
section
/-! DEFINITION. What construction fixes and the spec leaves OPEN (spec/00_scope.md R6), and the free values of the
environment. The opaque constants have no body: no proof can see what they are. -/

namespace Sys2Proof

/-- A non-empty byte string: one member of BOOT_BANNERS (spec/41_packet_router.md R98: "An empty banner is excluded"). -/
structure Banner where
  first : Byte
  rest : Bytes
  deriving DecidableEq, Repr, Inhabited

/-- The bytes of a banner. -/
def Banner.bytes (b : Banner) : Bytes := b.first :: b.rest

/-- BOOT_BANNERS: "a non-empty finite set of non-empty byte strings" (spec/41_packet_router.md R98). -/
structure Banners where
  one : Banner
  more : List Banner
  deriving DecidableEq, Repr, Inhabited

/-- The members of BOOT_BANNERS. -/
def Banners.all (b : Banners) : List Banner := b.one :: b.more

/-- TEXT_OK as plain data: the spec's default (7-bit ASCII), or some other predicate of which nothing is known
(Config.textOk). DESIGN CHOICE, safe: log entry 5. -/
inductive TextRule where
  | ascii7
  | other
  deriving DecidableEq, Repr, Inhabited

/-- The parameters of construction that spec/00_scope.md R6 calls OPEN, but SEED; fixed for the life of a session (D33). -/
structure Params where
  /-- DIAGNOSTIC_CMD -/
  diagnosticCmd : Byte
  /-- BOOT_BANNERS -/
  bootBanners : Banners
  /-- TEXT_OK -/
  textRule : TextRule
  /-- INQ_DEPTH, none for the default, infinite -/
  inqDepth : Option Nat
  /-- PEND_DEPTH, none for the default, infinite -/
  pendDepth : Option Nat
  /-- OPEN_TWICE_REPORTS -/
  openTwiceReports : Bool
  /-- CLOSE_RESETS_DECODER, default false -/
  closeResetsDecoder : Bool
  deriving DecidableEq, Repr, Inhabited

/-- The parameters of the session State.reset is. Nothing is known of them: log entry 4. -/
opaque Config.params : Params

/-- SEED, "any value in 0..65535" (spec/10_state.md R25). Nothing is known of it: log entry 6. -/
opaque Config.seed : Word16

/-- The text predicate of a session whose TextRule is `other`: log entry 5. -/
opaque Config.textOk : Bytes → Bool

/-- Free values: does the Transport accept the `open` that asks the n-th question (spec/43_link_session.md R131)?
Log entry 8. -/
opaque Config.transportOpens : Nat → Bool

/-- Free values: after an unsuccessful poll, has the deadline passed (none), or how many steps of the other agents come
before the next poll (some k) (spec/42_packet_store.md R118)? Log entry 8. -/
opaque Config.deadlineAnswer : Nat → Option Nat

end Sys2Proof
end

