-- ==== Sys2Proof/Syntax.lean ====
section
/-! DEFINITION. The Packet record (spec/10_state.md R17) and the operations as syntax: one constructor of Instr per row of
spec/opcode_table.json, in the table's order. A row that is a BRANCH of an operation (rx_byte.*, route.*, frame.tx) stands
for the step in which the operation takes that branch (log entry 10). -/

namespace Sys2Proof

/-- A decoded packet, six fields (spec/10_state.md R17). -/
structure Packet where
  length : Byte
  hardwareId : Word16
  sequence : Word16
  systemId : Byte
  commandId : Byte
  payload : Bytes
  deriving DecidableEq, Repr

/-- The operations and their branches. Operands as spec/30_encoding.md R57 gives them. -/
inductive Instr where
  /-- `rx_byte.idle.marker0`, R72 -/
  | rxByteIdleMarker0
  /-- `rx_byte.idle.noise`, R71 -/
  | rxByteIdleNoise (b : Byte)
  /-- `rx_byte.saw.marker1`, R74 -/
  | rxByteSawMarker1
  /-- `rx_byte.saw.fail`, R73 -/
  | rxByteSawFail (b : Byte)
  /-- `rx_byte.inframe.length`, R75 and R76 -/
  | rxByteInframeLength (b : Byte)
  /-- `rx_byte.inframe.body`, R75 and R76 -/
  | rxByteInframeBody (b : Byte)
  /-- `rx_byte.inframe.complete`, R76: the byte whose append completes the frame -/
  | rxByteInframeComplete (b : Byte)
  /-- `reset`, R77 -/
  | reset
  /-- `frame.tx`, R136: the frame a successful `send` writes; systemId is 0x01 and length 6 + |payload| -/
  | frameTx (hardwareId sequence : Word16) (commandId : Byte) (payload : Bytes)
  /-- `frame.rx`, R50: a whole wire frame arriving, given by its raw frame (R51: the marker removed) -/
  | frameRx (raw : Bytes)
  /-- `route.runt`, R92 -/
  | routeRunt (raw : Bytes)
  /-- `route.decode`, R91 -/
  | routeDecode (raw : Bytes)
  /-- `route.boot`, R94 -/
  | routeBoot (p : Packet)
  /-- `route.log`, R95 -/
  | routeLog (p : Packet)
  /-- `route.store`, R96 -/
  | routeStore (p : Packet)
  /-- `enqueue`, R111 -/
  | enqueue (p : Packet)
  /-- `drain`, R112 -/
  | drain
  /-- `take(cmd?, seq?)`, R113 -/
  | take (cmd : Option Byte) (seq : Option Word16)
  /-- `take.seq`, R114: `cmd` is ignored if given -/
  | takeSeq (seq : Word16) (cmd : Option Byte)
  /-- `take.cmd`, R115 -/
  | takeCmd (cmd : Byte)
  /-- `take.fifo`, R116 -/
  | takeFifo
  /-- `takeWithTimeout(cmd?, seq?, timeout)`, R118: one poll of it; the duration is not interpreted -/
  | takeWithTimeout (cmd : Option Byte) (seq : Option Word16) (timeout : Nat)
  /-- `clean(cmd?)`, R119 -/
  | clean (cmd : Option Byte)
  /-- `open`, R131 -/
  | openSession
  /-- `close`, R132 -/
  | closeSession
  /-- `disconnect`, R133 -/
  | disconnect
  /-- `send(hardwareId, commandId, payload)`, R134: a payload of any length -/
  | send (hardwareId : Word16) (commandId : Byte) (payload : Bytes)
  /-- `rx_byte(b)`, R70 -/
  | rxByte (b : Byte)
  /-- `route(F)`, R90 -/
  | route (raw : Bytes)
  deriving DecidableEq, Repr

end Sys2Proof
end

