-- ==== Sys2Proof/Machine/State.lean ====
section
/-! DEFINITION. The state of one session as plain data: the nine elements of spec/10_state.md R10, the parameters of
construction (spec/00_scope.md R6), the output ports (spec/20_memory.md R31) and the environment's inputs; the reasons a step
can stop; the state after construction (R25, R190). -/

namespace Sys2Proof.Machine

/-- RX_STATE, "exactly three values" (R11). -/
inductive RxState where
  | idle
  | sawFirstMarker
  | inFrame
  deriving DecidableEq, Repr

/-- The events of port DIAG (R31, R170). -/
inductive Diag where
  | noise (b : Byte)
  | boot (hardwareId : Word16) (message : Bytes)
  | log (sequence : Word16) (message : Bytes)
  | runt (raw : Bytes)
  deriving DecidableEq, Repr

/-- The error conditions, a closed enumeration without numbers (spec/60_exceptions.md R160, R161). -/
inductive ErrorCondition where
  | timeout
  | validationError
  | notConnected
  | alreadyOpen
  | transportOpenFailed
  deriving DecidableEq, Repr

/-- What an operation answers to its caller (spec/30_encoding.md R57). `noPacket` is the spec's None, "a normal response,
not an error". -/
inductive Response where
  | ok
  | sequence (n : Word16)
  | count (n : Nat)
  | packet (p : Packet)
  | noPacket
  | failed (e : ErrorCondition)
  deriving DecidableEq, Repr

/-- The calls the block makes on the Transport beside its writes (spec/60_exceptions.md R176). -/
inductive TransportCall where
  | opening
  | closing
  deriving DecidableEq, Repr

/-- One session. -/
structure State where
  /-- the parameters of construction (R6); no step changes them (D33) -/
  params : Params
  /-- RX_STATE (R11) -/
  rxState : RxState
  /-- RX_BUF (R12) -/
  rxBuf : Bytes
  /-- RX_LEN, none for unset (R13) -/
  rxLen : Option Byte
  /-- TX_SEQ (R15) -/
  txSeq : Word16
  /-- CONNECTED (R16) -/
  connected : Bool
  /-- INQ, oldest first (R18) -/
  inq : List Packet
  /-- PEND, oldest first (R19) -/
  pend : List Packet
  /-- FAULT.RUNT (R23) -/
  faultRunt : Bool
  /-- FAULT.OVERFLOW (R23) -/
  faultOverflow : Bool
  /-- port TX: the frames written, oldest first (R31) -/
  tx : List Bytes
  /-- port DIAG: the events emitted, oldest first (R31, R170) -/
  diag : List Diag
  /-- ports HOST, SEND and STORE: the responses, oldest first (R31) -/
  responses : List Response
  /-- the calls made on the Transport, oldest first (R176) -/
  transportCalls : List TransportCall
  /-- the model's own: the steps the agents take next, in their interleaving (R38, R39). Log entry 1. -/
  requests : List Instr
  /-- the model's own: what the Transport will answer to the next `open` calls. Log entry 8. -/
  transportAnswers : List Bool
  /-- the model's own: what becomes of the next unsuccessful polls. Log entry 8. -/
  deadlineAnswers : List (Option Nat)
  /-- the model's own: how many answers were free values; the index of the next one. Log entry 8. -/
  asked : Nat
  deriving DecidableEq, Repr

/-- The reasons the machine stops. No operation of the spec stops the block (spec/60_exceptions.md R168, R172). -/
inductive Fault where
  /-- Raised by the rows that are branches of an operation (rx_byte.*, route.*, frame.tx) in a state in which the operation's
  dispatch does not take that branch: no such step exists, the state is stuck on it. Safe. -/
  | noStep
  deriving DecidableEq, Repr

/-- The reasons a step is refused. -/
inductive Refusal where
  /-- Raised by `exec` for an instruction that has no meaning yet (none is left). Safe. -/
  | notModelled (mnemonic : String)
  /-- Raised by `step` for a request whose operands the spec excludes (Instr.wellFormed), such as a raw frame whose length
  byte is wrong: no agent can make it. Safe. -/
  | illFormed
  deriving DecidableEq, Repr

/-- Construction (spec/70_reset_and_hazards.md R190): the parameters and the seed are taken, everything else is at its
"after construction" value (spec/10_state.md R25). -/
def State.construct (params : Params) (seed : Word16) : State where
  params := params
  rxState := .idle
  rxBuf := []
  rxLen := none
  txSeq := seed
  connected := false
  inq := []
  pend := []
  faultRunt := false
  faultOverflow := false
  tx := []
  diag := []
  responses := []
  transportCalls := []
  requests := []
  transportAnswers := []
  deadlineAnswers := []
  asked := 0

/-- The machine right after reset: a session constructed with parameters and a seed of which nothing is known. -/
def State.reset : State := State.construct Config.params Config.seed

end Sys2Proof.Machine
end

