-- ==== Sys2Proof/Machine/Flags.lean ====
section
/-! DEFINITION. The block's only flags: the two sticky fault flags (spec/10_state.md R23). Nothing clears them but
construction, nothing reads them, and they do not stop the block (spec/60_exceptions.md R168). -/

namespace Sys2Proof.Machine

/-- `fault RuntFrame` (spec/41_packet_router.md R92). -/
def State.raiseRunt (s : State) : State := { s with faultRunt := true }

/-- `fault StoreOverflow` (spec/42_packet_store.md R120). -/
def State.raiseOverflow (s : State) : State := { s with faultOverflow := true }

end Sys2Proof.Machine
end

