-- ==== Sys2Proof/Decode.lean ====
section
/-! DEFINITION. The constants of the format (spec/00_scope.md R6), byte order (R32), the classes of a received byte
(spec/30_encoding.md R54), the wire frame (R50, R51), the decoder of both, and after it the encoder. The requests have no
binary encoding (R57, R59): `encode` answers none for them. -/

namespace Sys2Proof

/-- MARKER0, 0x22 (R6). -/
def marker0 : Byte := 0x22#8

/-- MARKER1, 0x69 (R6). -/
def marker1 : Byte := 0x69#8

/-- HEADER_LEN, 6 (R6): hardwareId 2, sequence 2, systemId 1, commandId 1. -/
def headerLen : Nat := 6

/-- SYSTEM_ID_TX, 0x01 (R6). -/
def systemIdTx : Byte := 0x01#8

/-- LOG_MARKER, 0x02 (R6). -/
def logMarker : Byte := 0x02#8

/-- MAX_LENGTH, 255 (R6): the largest value of the length byte. -/
def maxLength : Nat := 255

/-- The low byte `v[7:0]`, `v mod 256` (R7, R32). -/
def lowByte (v : Word16) : Byte := BitVec.ofNat 8 (v.toNat % 256)

/-- The high byte `v[15:8]`, `v div 256` (R7, R32). -/
def highByte (v : Word16) : Byte := BitVec.ofNat 8 (v.toNat / 256)

/-- `LE16(v)`: low byte first (R7). -/
def le16 (v : Word16) : Bytes := [lowByte v, highByte v]

/-- `unLE16(a, b) = a + 256·b` (R7). -/
def unLE16 (a b : Byte) : Word16 := BitVec.ofNat 16 (a.toNat + 256 * b.toNat)

/-- `F[i]`, for an index below `|F|` (R7); 0 beyond it, where no rule reads. -/
def byteAt (f : Bytes) (i : Nat) : Byte := f.getD i 0#8

/-- `build(H, S, C, P)` (spec/43_link_session.md R136). The length byte is right for |P| up to 249, the only payloads
`send` builds a frame of (R135). -/
def buildFrame (hardwareId sequence : Word16) (commandId : Byte) (payload : Bytes) : Bytes :=
  [marker0, marker1, BitVec.ofNat 8 (headerLen + payload.length)] ++ le16 hardwareId ++ le16 sequence
    ++ [systemIdTx, commandId] ++ payload

/-- `decode(F)` for a raw frame of at least seven bytes (spec/41_packet_router.md R91). -/
def decodePacket (raw : Bytes) : Packet where
  length := byteAt raw 0
  hardwareId := unLE16 (byteAt raw 1) (byteAt raw 2)
  sequence := unLE16 (byteAt raw 3) (byteAt raw 4)
  systemId := byteAt raw 5
  commandId := byteAt raw 6
  payload := raw.drop 7

/-- Where a received byte meets the decoder: the four pairs (RX_STATE, is RX_BUF empty) of R54. -/
inductive Place where
  | idle
  | sawFirstMarker
  | lengthByte
  | bodyByte
  deriving DecidableEq, Repr

/-- The six classes of R54. -/
inductive ByteClass where
  | idleMarker0
  | idleNoise
  | sawMarker1
  | sawFail
  | inframeLength
  | inframeBody
  deriving DecidableEq, Repr

/-- The table of R54: "every pair (state, byte value) is in exactly one row". -/
def byteClass : Place → Byte → ByteClass
  | .idle, b => if b = marker0 then .idleMarker0 else .idleNoise
  | .sawFirstMarker, b => if b = marker1 then .sawMarker1 else .sawFail
  | .lengthByte, _ => .inframeLength
  | .bodyByte, _ => .inframeBody

/-- The opcode-table row of a class, for the byte received. -/
def classRow : ByteClass → Byte → Instr
  | .idleMarker0, _ => .rxByteIdleMarker0
  | .idleNoise, b => .rxByteIdleNoise b
  | .sawMarker1, _ => .rxByteSawMarker1
  | .sawFail, b => .rxByteSawFail b
  | .inframeLength, b => .rxByteInframeLength b
  | .inframeBody, b => .rxByteInframeBody b

/-- What the bytes being read are: an event of port RX, a byte met in a place of R54, the byte that completes a frame
(R76), a whole frame coming in, a whole frame going out (the two formats are identical, R50, so the direction is needed). -/
inductive Context where
  | rxPort
  | received (p : Place)
  | completing
  | inbound
  | outbound
  deriving DecidableEq, Repr

/-- Why bytes are not what the context asks for. -/
inductive Reject where
  /-- no byte is there -/
  | empty
  /-- the two marker bytes 22 69 do not stand first -/
  | noMarker
  /-- the marker stands alone, with no length byte -/
  | noLength
  /-- fewer bytes than the length byte announces -/
  | truncated
  /-- an outbound frame has a length byte of at least 6 (R136) -/
  | shortLength
  /-- an outbound frame has systemId 0x01 (R136) -/
  | systemId
  deriving DecidableEq, Repr

/-- What decoding answers: the instruction and the bytes after it, or a rejection by name. -/
inductive Decoded where
  | instr (i : Instr) (rest : Bytes)
  | rejected (r : Reject)
  deriving DecidableEq, Repr

/-- The byte contexts: the first byte is the instruction, whatever its value (R53, R54). -/
def decodeByte (row : Byte → Instr) : Bytes → Decoded
  | [] => .rejected .empty
  | b :: rest => .instr (row b) rest

/-- The outbound reading of a raw frame: what `build` can have made (R136). -/
def outboundOf (raw rest : Bytes) : Decoded :=
  if (byteAt raw 0).toNat < headerLen then .rejected .shortLength
  else if byteAt raw 5 ≠ systemIdTx then .rejected .systemId
  else .instr (.frameTx (decodePacket raw).hardwareId (decodePacket raw).sequence (decodePacket raw).commandId
    (decodePacket raw).payload) rest

/-- A wire frame: marker, length byte L, L further bytes whatever their values (R50, R53). `raw` is handed on without
the marker (R51). -/
def decodeFrame (use : Bytes → Bytes → Decoded) : Bytes → Decoded
  | [] => .rejected .empty
  | [_] => .rejected .noMarker
  | m0 :: m1 :: after =>
    if m0 = marker0 ∧ m1 = marker1 then
      match after with
      | [] => .rejected .noLength
      | len :: more =>
        if more.length < len.toNat then .rejected .truncated
        else use (len :: more.take len.toNat) (more.drop len.toNat)
    else .rejected .noMarker

/-- The decoder: total on any bytes in any context. -/
def decode : Context → Bytes → Decoded
  | .rxPort, bs => decodeByte .rxByte bs
  | .received p, bs => decodeByte (fun b => classRow (byteClass p b) b) bs
  | .completing, bs => decodeByte .rxByteInframeComplete bs
  | .inbound, bs => decodeFrame (fun raw rest => .instr (.frameRx raw) rest) bs
  | .outbound, bs => decodeFrame outboundOf bs

/-- The `n` low bytes of a number, lowest first: how a table word lies in a stream. -/
def wordBytes : Nat → Nat → Bytes
  | 0, _ => []
  | n + 1, w => BitVec.ofNat 8 w :: wordBytes n (w / 256)

/-- A single byte read from the table alone, with no decoder state: the first row, in the table's order, whose match and
mask take it (0x22/0xFF, 0x69/0xFF, then 0x00/0x00). DESIGN CHOICE: log entry 28. -/
def tableRow (b : Byte) : Instr :=
  if b = marker0 then .rxByteIdleMarker0
  else if b = marker1 then .rxByteSawMarker1
  else .rxByteInframeLength b

/-- The longest encoding: a wire frame of 258 bytes (R60). -/
def longestFrame : Nat := 258

/-- The instruction whose table bits are `w`: one byte is a received byte, more are a wire frame coming in, the bytes
above `nbits` zero. -/
def decodeTableWord (nbits w : Nat) : Option Instr :=
  match wordBytes ((nbits + 7) / 8) w with
  | [] => none
  | [b] => some (tableRow b)
  | bs =>
    match decode .inbound (bs ++ List.replicate longestFrame 0#8) with
    | .instr i _ => some i
    | .rejected _ => none

/-- The encoder, from the same tables: a received byte is itself, a frame is R50's layout; the rest has no encoding. -/
def encode : Instr → Option Bytes
  | .rxByteIdleMarker0 => some [marker0]
  | .rxByteIdleNoise b => some [b]
  | .rxByteSawMarker1 => some [marker1]
  | .rxByteSawFail b => some [b]
  | .rxByteInframeLength b => some [b]
  | .rxByteInframeBody b => some [b]
  | .rxByteInframeComplete b => some [b]
  | .reset => none
  | .frameTx h s c p => some (buildFrame h s c p)
  | .frameRx raw => some (marker0 :: marker1 :: raw)
  | .routeRunt _ => none
  | .routeDecode _ => none
  | .routeBoot _ => none
  | .routeLog _ => none
  | .routeStore _ => none
  | .enqueue _ => none
  | .drain => none
  | .take _ _ => none
  | .takeSeq _ _ => none
  | .takeCmd _ => none
  | .takeFifo => none
  | .takeWithTimeout _ _ _ => none
  | .clean _ => none
  | .openSession => none
  | .closeSession => none
  | .disconnect => none
  | .send _ _ _ => none
  | .rxByte b => some [b]
  | .route _ => none

/-- The context in which an instruction's encoding is read back. -/
def Instr.context : Instr → Context
  | .rxByteIdleMarker0 => .received .idle
  | .rxByteIdleNoise _ => .received .idle
  | .rxByteSawMarker1 => .received .sawFirstMarker
  | .rxByteSawFail _ => .received .sawFirstMarker
  | .rxByteInframeLength _ => .received .lengthByte
  | .rxByteInframeBody _ => .received .bodyByte
  | .rxByteInframeComplete _ => .completing
  | .frameTx _ _ _ _ => .outbound
  | .frameRx _ => .inbound
  | .reset => .rxPort
  | .routeRunt _ => .rxPort
  | .routeDecode _ => .rxPort
  | .routeBoot _ => .rxPort
  | .routeLog _ => .rxPort
  | .routeStore _ => .rxPort
  | .enqueue _ => .rxPort
  | .drain => .rxPort
  | .take _ _ => .rxPort
  | .takeSeq _ _ => .rxPort
  | .takeCmd _ => .rxPort
  | .takeFifo => .rxPort
  | .takeWithTimeout _ _ _ => .rxPort
  | .clean _ => .rxPort
  | .openSession => .rxPort
  | .closeSession => .rxPort
  | .disconnect => .rxPort
  | .send _ _ _ => .rxPort
  | .rxByte _ => .rxPort
  | .route _ => .rxPort

end Sys2Proof
end

