-- ==== Sys2Proof/Machine/Operands.lean ====
section
/-! DEFINITION. The operand forms: where a received byte meets the decoder (spec/30_encoding.md R54), the filters of `take`
(spec/42_packet_store.md R113), the text of a payload (spec/41_packet_router.md R97) and the router's classification (R93). -/

namespace Sys2Proof.Machine

/-- The pair (RX_STATE, is RX_BUF empty) of R54. -/
def State.place (s : State) : Place :=
  match s.rxState with
  | .idle => .idle
  | .sawFirstMarker => .sawFirstMarker
  | .inFrame => if s.rxBuf.isEmpty then .lengthByte else .bodyByte

/-- What `take` looks for: "At most one filter is honored per call, seq taking priority over cmd" (R113). -/
inductive Pick where
  | bySequence (n : Word16)
  | byCommand (c : Byte)
  | oldest
  deriving DecidableEq, Repr

/-- The choice of R113, made on which arguments are present and on nothing else. -/
def pickOf (cmd : Option Byte) (seq : Option Word16) : Pick :=
  match seq with
  | some n => .bySequence n
  | none =>
    match cmd with
    | some c => .byCommand c
    | none => .oldest

/-- The test of R114, R115 and R116. -/
def Pick.accepts (k : Pick) (p : Packet) : Bool :=
  match k with
  | .bySequence n => p.sequence == n
  | .byCommand c => p.commandId == c
  | .oldest => true

/-- Does `clean(cmd?)` keep the packet (R119)? -/
def keptByClean (cmd : Option Byte) (p : Packet) : Bool :=
  match cmd with
  | none => false
  | some c => p.commandId != c

/-- TEXT_OK of the session (spec/00_scope.md R6): by default "every byte is at most 0x7F". -/
def textOk (rule : TextRule) (x : Bytes) : Bool :=
  match rule with
  | .ascii7 => x.all (fun b => decide (b.toNat ≤ 0x7F))
  | .other => Config.textOk x

/-- `text(payload)` (R97): "a failed text decode is treated as empty string". -/
def textOf (rule : TextRule) (x : Bytes) : Bytes := if textOk rule x then x else []

/-- `contains(t, s)` (spec/00_scope.md R7): some position of `t` begins a copy of `s`. -/
def contains : Bytes → Bytes → Bool
  | [], s => s.isEmpty
  | b :: t, s => s.isPrefixOf (b :: t) || contains t s

/-- "exists s in BOOT_BANNERS: contains(t, s)" (R93). -/
def hasBanner (banners : Banners) (t : Bytes) : Bool := banners.all.any (fun b => contains t b.bytes)

/-- The three outcomes for a decoded packet (R93). -/
inductive RouteClass where
  | boot
  | log
  | store
  deriving DecidableEq, Repr

/-- The classification, "evaluated strictly in this order" (R93). -/
def classify (c : Params) (p : Packet) : RouteClass :=
  if p.commandId = c.diagnosticCmd ∧ hasBanner c.bootBanners (textOf c.textRule p.payload) = true then .boot
  else if p.commandId = c.diagnosticCmd ∧ p.payload.head? = some logMarker then .log
  else .store

end Sys2Proof.Machine
end

