-- ==== Sys2Proof/Machine/Ops.lean ====
section
/-! DEFINITION. The named operations: the updates of State, the output ports (`emit`, `return`, `fail` of spec/00_scope.md
R7), the environment's answers, the decoder's reset (spec/40_frame_decoder.md R77), the store (spec/42_packet_store.md) and
what makes an instruction the next step. The block takes no exception and has no handler (spec/60_exceptions.md R172): what
stands in that place is `State.fail`. -/

namespace Sys2Proof.Machine

/-! ## Updates -/

/-- Writes RX_STATE, RX_BUF and RX_LEN. -/
def State.setDecoder (s : State) (st : RxState) (buf : Bytes) (len : Option Byte) : State :=
  { s with rxState := st, rxBuf := buf, rxLen := len }

/-- Writes RX_STATE alone. -/
def State.setRxState (s : State) (st : RxState) : State := { s with rxState := st }

/-- Writes TX_SEQ. -/
def State.setTxSeq (s : State) (n : Word16) : State := { s with txSeq := n }

/-- Writes CONNECTED. -/
def State.setConnected (s : State) (c : Bool) : State := { s with connected := c }

/-- Writes INQ. -/
def State.setInq (s : State) (q : List Packet) : State := { s with inq := q }

/-- Writes PEND. -/
def State.setPend (s : State) (q : List Packet) : State := { s with pend := q }

/-- Writes the agents' coming steps. -/
def State.setRequests (s : State) (r : List Instr) : State := { s with requests := r }

/-! ## Ports -/

/-- `emit DIAG d`. -/
def State.emitDiag (s : State) (d : Diag) : State := { s with diag := s.diag ++ [d] }

/-- `emit TX tx_frame(f)`: the frame as one unit, after every earlier one (R137). -/
def State.emitTx (s : State) (f : Bytes) : State := { s with tx := s.tx ++ [f] }

/-- `return r`. -/
def State.respond (s : State) (r : Response) : State := { s with responses := s.responses ++ [r] }

/-- `fail e`: the error condition goes to the caller of the operation and to nobody else, and nothing else changes
(spec/60_exceptions.md R160, R172). -/
def State.fail (s : State) (e : ErrorCondition) : State := s.respond (.failed e)

/-- A call made on the Transport (R176). -/
def State.callTransport (s : State) (c : TransportCall) : State := { s with transportCalls := s.transportCalls ++ [c] }

/-! ## The environment's answers (log entry 8) -/

/-- Will the Transport open? The answer State holds, or a free value. -/
def State.transportAnswer (s : State) : Bool :=
  match s.transportAnswers with
  | a :: _ => a
  | [] => Config.transportOpens s.asked

/-- The state once that answer is used up. -/
def State.afterTransportAnswer (s : State) : State :=
  match s.transportAnswers with
  | _ :: rest => { s with transportAnswers := rest }
  | [] => { s with asked := s.asked + 1 }

/-- Has the deadline passed (none), or how many steps of others come first (some k)? The answer State holds, or a free
value. -/
def State.deadlineAnswer (s : State) : Option Nat :=
  match s.deadlineAnswers with
  | a :: _ => a
  | [] => Config.deadlineAnswer s.asked

/-- The state once that answer is used up. -/
def State.afterDeadlineAnswer (s : State) : State :=
  match s.deadlineAnswers with
  | _ :: rest => { s with deadlineAnswers := rest }
  | [] => { s with asked := s.asked + 1 }

/-! ## The decoder's reset -/

/-- `reset()` (R77): the partial frame is forgotten, nothing is emitted. -/
def State.resetDecoder (s : State) : State := s.setDecoder .idle [] none

/-! ## The store -/

/-- Is there room for one more packet in INQ (R111)? -/
def State.inqHasRoom (s : State) : Bool :=
  match s.params.inqDepth with
  | none => true
  | some d => decide (s.inq.length < d)

/-- `enqueue(p)` (R111), with the overflow of R120. -/
def State.enqueue (s : State) (p : Packet) : State :=
  if s.inqHasRoom then s.setInq (s.inq ++ [p]) else s.raiseOverflow

/-- How many packets `drain` may move, and whether that is too few (R112, R120). -/
def State.drainOverflows (s : State) : Bool :=
  match s.params.pendDepth with
  | none => false
  | some d => decide (d < s.pend.length + s.inq.length)

/-- The room left in PEND when its depth is finite (R120). -/
def State.pendRoom (s : State) : Nat :=
  match s.params.pendDepth with
  | none => s.inq.length
  | some d => d - s.pend.length

/-- `drain()` without its response (R112): all of INQ goes to the end of PEND, in order; if PEND_DEPTH is exceeded, the
oldest that fit go, the rest stay, and the overflow is marked (R120). -/
def State.drain (s : State) : State :=
  if s.drainOverflows then
    ((s.setPend (s.pend ++ s.inq.take s.pendRoom)).setInq (s.inq.drop s.pendRoom)).raiseOverflow
  else (s.setPend (s.pend ++ s.inq)).setInq []

/-- The packet one `take` finds after its drain: the first that is accepted (R114 to R116). -/
def State.found (s : State) (k : Pick) : Option Packet := s.drain.pend.find? k.accepts

/-- The state one `take` leaves: drained, the first accepted packet removed, the order of the rest kept. -/
def State.afterTake (s : State) (k : Pick) : State := s.drain.setPend (s.drain.pend.eraseP k.accepts)

/-- The response of `take`: the packet, or None. -/
def State.takeResponse (s : State) (k : Pick) : Response :=
  match s.found k with
  | some p => .packet p
  | none => .noPacket

/-- `take` (R113): drain, look, remove, answer, in one step. -/
def State.take (s : State) (k : Pick) : State := (s.afterTake k).respond (s.takeResponse k)

/-! ## Steps -/

/-- A branch row's step: taken where the dispatch selects it, stuck elsewhere (log entry 10). -/
def branch (selected : Bool) (t : State) : Host.Outcome State Fault Refusal :=
  if selected then .next t else .fault .noStep

/-- The place of the coming steps at which a call that goes on polling stands again: after `k` other steps. -/
def insertRequest (k : Nat) (i : Instr) (rest : List Instr) : List Instr := rest.take k ++ i :: rest.drop k

/-- The state in which the very next step runs `i`: `i` is the next request, the session is connected, and the decoder is
where the row says. Only instructions with an encoding are ever placed (log entry 2). -/
def State.placeNext (s : State) (i : Instr) : State :=
  let ready := (s.setConnected true).setRequests (i :: s.requests)
  match i with
  | .rxByteIdleMarker0 => ready.setDecoder .idle [] none
  | .rxByteSawMarker1 => ready.setDecoder .sawFirstMarker [] none
  | .rxByteInframeLength _ => ready.setDecoder .inFrame [] none
  | _ => ready

end Sys2Proof.Machine
end

