-- ==== Sys2Proof/Machine/PacketRouter.lean ====
section
/-! DEFINITION. PacketRouter (spec/41_packet_router.md): what each outcome does, the dispatch of R90 and R93, and the meanings
of `route` and of its rows. -/

namespace Sys2Proof.Machine

/-- A runt frame (R92): the fault flag and the diagnostic event; nothing is stored. -/
def State.runt (s : State) (raw : Bytes) : State := s.raiseRunt.emitDiag (.runt raw)

/-- A boot announcement (R94): the message is `text(payload)`. -/
def State.boot (s : State) (p : Packet) : State :=
  s.emitDiag (.boot p.hardwareId (textOf s.params.textRule p.payload))

/-- A log line (R95): the payload without its first byte. -/
def State.log (s : State) (p : Packet) : State := s.emitDiag (.log p.sequence (p.payload.drop 1))

/-- The outcome of a decoded packet (R93): exactly one of R94, R95, R96. -/
def State.classified (s : State) (p : Packet) : State :=
  match classify s.params p with
  | .boot => s.boot p
  | .log => s.log p
  | .store => s.enqueue p

/-- `route(F)` (R90). -/
def State.route (s : State) (raw : Bytes) : State :=
  if raw.length < 7 then s.runt raw else s.classified (decodePacket raw)

/-- `route(F)`, R90: total on every frame. -/
def execRoute (raw : Bytes) (s : State) : Host.Outcome State Fault Refusal := .next (s.route raw)

/-- `route.runt`, R92: the branch of a frame shorter than seven bytes. -/
def execRouteRunt (raw : Bytes) (s : State) : Host.Outcome State Fault Refusal :=
  branch (decide (raw.length < 7)) (s.runt raw)

/-- `route.decode`, R91: the branch of a frame of at least seven bytes; its packet then takes one of the three outcomes. -/
def execRouteDecode (raw : Bytes) (s : State) : Host.Outcome State Fault Refusal :=
  branch (decide (7 ≤ raw.length)) (s.classified (decodePacket raw))

/-- `route.boot`, R94: the first outcome. -/
def execRouteBoot (p : Packet) (s : State) : Host.Outcome State Fault Refusal :=
  branch (classify s.params p == .boot) (s.boot p)

/-- `route.log`, R95: the second outcome. -/
def execRouteLog (p : Packet) (s : State) : Host.Outcome State Fault Refusal :=
  branch (classify s.params p == .log) (s.log p)

/-- `route.store`, R96: the third outcome. -/
def execRouteStore (p : Packet) (s : State) : Host.Outcome State Fault Refusal :=
  branch (classify s.params p == .store) (s.enqueue p)

end Sys2Proof.Machine
end

