-- ==== Sys2Proof/Machine/FrameDecoder.lean ====
section
/-! DEFINITION. FrameDecoder (spec/40_frame_decoder.md): one operation per class of received byte, the completion test, the
dispatch of R70, and the meanings of `rx_byte`, of its rows, of `reset` and of a whole frame received. -/

namespace Sys2Proof.Machine

/-- R72: the first marker byte is accepted; it is not reported, now or later. -/
def State.acceptMarker0 (s : State) : State := s.setRxState .sawFirstMarker

/-- R71 and R73: the byte is reported and the hunt goes on from Idle. -/
def State.reportNoise (s : State) (b : Byte) : State := (s.setRxState .idle).emitDiag (.noise b)

/-- R74: the marker is complete. -/
def State.acceptMarker1 (s : State) : State := s.setDecoder .inFrame [] none

/-- RX_LEN after the append of R75: the first byte of the frame is the length byte. -/
def State.lenAfter (s : State) (b : Byte) : Option Byte := if s.rxBuf.isEmpty then some b else s.rxLen

/-- The completion test of R76 after the append of `b`, in unbounded integers. -/
def State.completes (s : State) (b : Byte) : Bool :=
  match s.lenAfter b with
  | none => false
  | some len => (s.rxBuf ++ [b]).length == len.toNat + 1

/-- R76, the test met: the buffer goes to the router, the decoder to Idle. -/
def State.completeFrame (s : State) (b : Byte) : State := s.resetDecoder.route (s.rxBuf ++ [b])

/-- R75 and R76: append, capture the length, test for completion. -/
def State.collect (s : State) (b : Byte) : State :=
  if s.completes b then s.completeFrame b else s.setDecoder s.rxState (s.rxBuf ++ [b]) (s.lenAfter b)

/-- `rx_byte(b)` while connected (R70): the class of the byte selects the rule. -/
def State.rxByte (s : State) (b : Byte) : State :=
  match byteClass s.place b with
  | .idleMarker0 => s.acceptMarker0
  | .idleNoise => s.reportNoise b
  | .sawMarker1 => s.acceptMarker1
  | .sawFail => s.reportNoise b
  | .inframeLength => s.collect b
  | .inframeBody => s.collect b

/-- A chunk of bytes is that many `rx_byte` steps in the chunk's order (spec/20_memory.md R34). -/
def State.rxBytes (s : State) : Bytes → State
  | [] => s
  | b :: rest => (s.rxByte b).rxBytes rest

/-- Is the class of `b` in this state the given one, in a session that receives (R54, R141)? -/
def State.selects (s : State) (c : ByteClass) (b : Byte) : Bool := s.connected && byteClass s.place b == c

/-- `rx_byte(b)`, R70. While not connected no byte reaches the decoder: it is lost without trace (R43, R141; log entry 11). -/
def execRxByte (b : Byte) (s : State) : Host.Outcome State Fault Refusal := .next (if s.connected then s.rxByte b else s)

/-- `rx_byte.idle.marker0`, R72. -/
def execRxByteIdleMarker0 (s : State) : Host.Outcome State Fault Refusal :=
  branch (s.selects .idleMarker0 marker0) s.acceptMarker0

/-- `rx_byte.idle.noise`, R71. -/
def execRxByteIdleNoise (b : Byte) (s : State) : Host.Outcome State Fault Refusal :=
  branch (s.selects .idleNoise b) (s.reportNoise b)

/-- `rx_byte.saw.marker1`, R74. -/
def execRxByteSawMarker1 (s : State) : Host.Outcome State Fault Refusal :=
  branch (s.selects .sawMarker1 marker1) s.acceptMarker1

/-- `rx_byte.saw.fail`, R73. -/
def execRxByteSawFail (b : Byte) (s : State) : Host.Outcome State Fault Refusal :=
  branch (s.selects .sawFail b) (s.reportNoise b)

/-- `rx_byte.inframe.length`, R75 then R76. -/
def execRxByteInframeLength (b : Byte) (s : State) : Host.Outcome State Fault Refusal :=
  branch (s.selects .inframeLength b) (s.collect b)

/-- `rx_byte.inframe.body`, R75 then R76. -/
def execRxByteInframeBody (b : Byte) (s : State) : Host.Outcome State Fault Refusal :=
  branch (s.selects .inframeBody b) (s.collect b)

/-- `rx_byte.inframe.complete`, R76: the byte with which the frame completes. -/
def execRxByteInframeComplete (b : Byte) (s : State) : Host.Outcome State Fault Refusal :=
  branch (s.connected && s.rxState == .inFrame && s.completes b) (s.completeFrame b)

/-- `reset`, R77. -/
def execReset (s : State) : Host.Outcome State Fault Refusal := .next s.resetDecoder

/-- `frame.rx`, R50: the marker and the raw frame arrive, one `rx_byte` step per byte with no other agent's step between
them (log entry 12). -/
def execFrameRx (raw : Bytes) (s : State) : Host.Outcome State Fault Refusal :=
  .next (if s.connected then s.rxBytes (marker0 :: marker1 :: raw) else s)

end Sys2Proof.Machine
end

