-- ==== Sys2Proof/Machine/LinkSession.lean ====
section
/-! DEFINITION. LinkSession (spec/43_link_session.md): the meanings of `open`, `close`, `disconnect`, `send` and of the frame
a successful `send` writes. -/

namespace Sys2Proof.Machine

/-- `open()` on an open session: "a no-op or a reported already-open condition, never a double-start" (R131). -/
def State.openAgain (s : State) : State :=
  if s.params.openTwiceReports then s.fail .alreadyOpen else s.respond .ok

/-- `open()` on a session that is not connected: the Transport is asked, and accepts or refuses (R131). -/
def State.openFirst (s : State) : State :=
  if s.transportAnswer then ((s.callTransport .opening).afterTransportAnswer.setConnected true).respond .ok
  else (s.callTransport .opening).afterTransportAnswer.fail .transportOpenFailed

/-- `open()`, R131. -/
def execOpen (s : State) : Host.Outcome State Fault Refusal := .next (if s.connected then s.openAgain else s.openFirst)

/-- The decoder at `close()`: reset only if CLOSE_RESETS_DECODER (R132). -/
def State.closeDecoder (s : State) : State := if s.params.closeResetsDecoder then s.resetDecoder else s

/-- `close()`, R132: on a session that is not connected "does nothing and returns Ok". -/
def execClose (s : State) : Host.Outcome State Fault Refusal :=
  .next ((if s.connected then ((s.setConnected false).callTransport .closing).closeDecoder else s).respond .ok)

/-- `disconnect`, R133. -/
def execDisconnect (s : State) : Host.Outcome State Fault Refusal := .next (s.resetDecoder.setConnected false)

/-- R136, R137, R138: build the frame with TX_SEQ, write it, count, answer the number used. -/
def State.sendFrame (s : State) (hardwareId : Word16) (commandId : Byte) (payload : Bytes) : State :=
  ((s.emitTx (buildFrame hardwareId s.txSeq commandId payload)).setTxSeq (s.txSeq + 1)).respond (.sequence s.txSeq)

/-- The length check of R135, in unbounded integers. -/
def oversized (payload : Bytes) : Bool := decide (maxLength < headerLen + payload.length)

/-- `send(hardwareId, commandId, payload)`, R134 with the checks of R135 in their order. -/
def execSend (hardwareId : Word16) (commandId : Byte) (payload : Bytes) (s : State) : Host.Outcome State Fault Refusal :=
  .next (if s.connected then
      if oversized payload then s.fail .validationError else s.sendFrame hardwareId commandId payload
    else s.fail .notConnected)

/-- `frame.tx`, R136: the step in which a successful `send` writes this frame; it exists where the session is connected,
the payload fits, and the frame's number is TX_SEQ (log entry 13). -/
def execFrameTx (hardwareId sequence : Word16) (commandId : Byte) (payload : Bytes) (s : State) :
    Host.Outcome State Fault Refusal :=
  branch (s.connected && !oversized payload && sequence == s.txSeq) (s.sendFrame hardwareId commandId payload)

end Sys2Proof.Machine
end

