-- ==== Sys2Proof/Machine/PacketStore.lean ====
section
/-! DEFINITION. PacketStore (spec/42_packet_store.md): the meanings of `enqueue`, `drain`, `take` and its rows,
`takeWithTimeout` and `clean`. None depends on CONNECTED (R110). -/

namespace Sys2Proof.Machine

/-- `enqueue(p)`, R111. -/
def execEnqueue (p : Packet) (s : State) : Host.Outcome State Fault Refusal := .next (s.enqueue p)

/-- `drain()`, R112: "returns the new pending count". -/
def execDrain (s : State) : Host.Outcome State Fault Refusal := .next (s.drain.respond (.count s.drain.pend.length))

/-- `take(cmd?, seq?)`, R113. -/
def execTake (cmd : Option Byte) (seq : Option Word16) (s : State) : Host.Outcome State Fault Refusal :=
  .next (s.take (pickOf cmd seq))

/-- `take.seq`, R114: a `cmd` given beside it "is ignored entirely". -/
def execTakeSeq (seq : Word16) (cmd : Option Byte) (s : State) : Host.Outcome State Fault Refusal :=
  .next (s.take (pickOf cmd (some seq)))

/-- `take.cmd`, R115. -/
def execTakeCmd (cmd : Byte) (s : State) : Host.Outcome State Fault Refusal := .next (s.take (pickOf (some cmd) none))

/-- `take.fifo`, R116. -/
def execTakeFifo (s : State) : Host.Outcome State Fault Refusal := .next (s.take (pickOf none none))

/-- One poll of `takeWithTimeout` (R118): a packet is returned at once; otherwise the environment says whether the deadline
has passed, and if not, the call polls again after the steps of others that it names. -/
def State.poll (s : State) (k : Pick) (again : Instr) : State :=
  match s.found k with
  | some p => (s.afterTake k).respond (.packet p)
  | none =>
    match s.deadlineAnswer with
    | none => (s.afterTake k).afterDeadlineAnswer.fail .timeout
    | some n => (s.afterTake k).afterDeadlineAnswer.setRequests (insertRequest n again s.requests)

/-- `takeWithTimeout(cmd?, seq?, timeout)`, R118: "At least one take is made". -/
def execTakeWithTimeout (cmd : Option Byte) (seq : Option Word16) (timeout : Nat) (s : State) :
    Host.Outcome State Fault Refusal :=
  .next (s.poll (pickOf cmd seq) (.takeWithTimeout cmd seq timeout))

/-- `clean(cmd?)`, R119: drains, then removes; no response. -/
def execClean (cmd : Option Byte) (s : State) : Host.Outcome State Fault Refusal :=
  .next (s.drain.setPend (s.drain.pend.filter (keptByClean cmd)))

end Sys2Proof.Machine
end

