-- ==== Sys2Proof/Machine/Dispatch.lean ====
section
/-! DEFINITION. The dispatch: one arm per row of spec/opcode_table.json, in the table's order. -/

namespace Sys2Proof.Machine

def exec (i : Instr) (s : State) : Host.Outcome State Fault Refusal :=
  match i with
  | .rxByteIdleMarker0 => Sys2Proof.Machine.execRxByteIdleMarker0 s
  | .rxByteIdleNoise b => Sys2Proof.Machine.execRxByteIdleNoise b s
  | .rxByteSawMarker1 => Sys2Proof.Machine.execRxByteSawMarker1 s
  | .rxByteSawFail b => Sys2Proof.Machine.execRxByteSawFail b s
  | .rxByteInframeLength b => Sys2Proof.Machine.execRxByteInframeLength b s
  | .rxByteInframeBody b => Sys2Proof.Machine.execRxByteInframeBody b s
  | .rxByteInframeComplete b => Sys2Proof.Machine.execRxByteInframeComplete b s
  | .reset => Sys2Proof.Machine.execReset s
  | .frameTx h n c p => Sys2Proof.Machine.execFrameTx h n c p s
  | .frameRx raw => Sys2Proof.Machine.execFrameRx raw s
  | .routeRunt raw => Sys2Proof.Machine.execRouteRunt raw s
  | .routeDecode raw => Sys2Proof.Machine.execRouteDecode raw s
  | .routeBoot p => Sys2Proof.Machine.execRouteBoot p s
  | .routeLog p => Sys2Proof.Machine.execRouteLog p s
  | .routeStore p => Sys2Proof.Machine.execRouteStore p s
  | .enqueue p => Sys2Proof.Machine.execEnqueue p s
  | .drain => Sys2Proof.Machine.execDrain s
  | .take c n => Sys2Proof.Machine.execTake c n s
  | .takeSeq n c => Sys2Proof.Machine.execTakeSeq n c s
  | .takeCmd c => Sys2Proof.Machine.execTakeCmd c s
  | .takeFifo => Sys2Proof.Machine.execTakeFifo s
  | .takeWithTimeout c n t => Sys2Proof.Machine.execTakeWithTimeout c n t s
  | .clean c => Sys2Proof.Machine.execClean c s
  | .openSession => Sys2Proof.Machine.execOpen s
  | .closeSession => Sys2Proof.Machine.execClose s
  | .disconnect => Sys2Proof.Machine.execDisconnect s
  | .send h c p => Sys2Proof.Machine.execSend h c p s
  | .rxByte b => Sys2Proof.Machine.execRxByte b s
  | .route raw => Sys2Proof.Machine.execRoute raw s

end Sys2Proof.Machine
end

