-- ==== Sys2Proof/WellFormed.lean ====
section
/-! DEFINITION. Which terms of Instr are operations of the block: the conditions the spec puts on the operands alone. -/

namespace Sys2Proof

/-- R51: "A raw frame F always satisfies |F| = F[0] + 1"; so 1 ≤ |F| ≤ 256. -/
def rawFrameOk (raw : Bytes) : Bool :=
  match raw with
  | [] => false
  | len :: more => more.length == len.toNat

/-- R17: "The invariant length = 6 + |payload| holds for every Packet that exists". -/
def Packet.ok (p : Packet) : Bool := p.length.toNat == 6 + p.payload.length

/-- The operand conditions, one line per constructor. -/
def Instr.wellFormed : Instr → Bool
  | .rxByteIdleMarker0 => true
  | .rxByteIdleNoise b => b != marker0
  | .rxByteSawMarker1 => true
  | .rxByteSawFail b => b != marker1
  | .rxByteInframeLength _ => true
  | .rxByteInframeBody _ => true
  | .rxByteInframeComplete _ => true
  | .reset => true
  | .frameTx _ _ _ payload => decide (headerLen + payload.length ≤ maxLength)
  | .frameRx raw => rawFrameOk raw
  | .routeRunt raw => rawFrameOk raw && decide (raw.length < 7)
  | .routeDecode raw => rawFrameOk raw && decide (7 ≤ raw.length)
  | .routeBoot p => p.ok
  | .routeLog p => p.ok
  | .routeStore p => p.ok
  | .enqueue p => p.ok
  | .drain => true
  | .take _ _ => true
  | .takeSeq _ _ => true
  | .takeCmd _ => true
  | .takeFifo => true
  | .takeWithTimeout _ _ _ => true
  | .clean _ => true
  | .openSession => true
  | .closeSession => true
  | .disconnect => true
  | .send _ _ _ => true
  | .rxByte _ => true
  | .route raw => rawFrameOk raw

end Sys2Proof
end

