-- ==== Sys2Proof/Machine/Step.lean ====
section
/-! DEFINITION. One step of the block: the next request of the agents' interleaving (spec/20_memory.md R38, R39). There is
no fetch and no program counter (spec/10_state.md R21). -/

namespace Sys2Proof.Machine

/-- One step. With no request the block "is idle and waits for calls" (spec/70_reset_and_hazards.md R190). -/
def step (s : State) : Host.Outcome State Fault Refusal :=
  match s.requests with
  | [] => .next s
  | i :: rest => if i.wellFormed then exec i (s.setRequests rest) else .refused .illFormed

/-- The state whose next step runs the instruction of that table word (log entry 2). -/
def State.withFetchWord (s : State) (nbits w : Nat) : State :=
  match decodeTableWord nbits w with
  | some i => s.placeNext i
  | none => s

end Sys2Proof.Machine
end

