-- ==== Sys2Proof/Safety.lean ====
section
/-! DEFINITION. What claims are stated in: no fault flag set (spec/60_exceptions.md R168), the decoder's invariants
(spec/10_state.md R14), the packets and depths of the store (R17 to R19), the frames on TX and their numbers
(spec/43_link_session.md R136, R138), the noise a hunt may see (spec/40_frame_decoder.md R80). -/

namespace Sys2Proof.Machine

/-- "A model's safety predicate is no fault flag set" (R168). -/
def State.noFault (s : State) : Prop := s.faultRunt = false ∧ s.faultOverflow = false

/-- R14, items 1 to 3 (item 4 follows). -/
structure DecoderInv (s : State) : Prop where
  hunting : s.rxState ≠ .inFrame → s.rxBuf = [] ∧ s.rxLen = none
  unset : s.rxBuf = [] → s.rxLen = none
  collecting : s.rxBuf ≠ [] → ∃ len, s.rxLen = some len ∧ s.rxBuf.head? = some len ∧ s.rxBuf.length ≤ len.toNat

/-- R17 for every stored packet, and the capacities of R18 and R19. -/
structure StoreInv (s : State) : Prop where
  inqPackets : ∀ p ∈ s.inq, p.length.toNat = 6 + p.payload.length
  pendPackets : ∀ p ∈ s.pend, p.length.toNat = 6 + p.payload.length
  inqFits : ∀ d, s.params.inqDepth = some d → s.inq.length ≤ d
  pendFits : ∀ d, s.params.pendDepth = some d → s.pend.length ≤ d

/-- A frame the block may write, byte by byte (R50, R136, R60). -/
structure OutboundFrame (f : Bytes) : Prop where
  marker : f.take 2 = [0x22#8, 0x69#8]
  size : ∃ len : Byte, f[2]? = some len ∧ 6 ≤ len.toNat ∧ f.length = 3 + len.toNat
  system : f[7]? = some 0x01#8

/-- The number in a frame's bytes 5 and 6, low byte first (R50). -/
def frameNumber (f : Bytes) : Word16 := BitVec.ofNat 16 ((f.getD 5 0#8).toNat + 256 * (f.getD 6 0#8).toNat)

/-- The sequence number in a response, if it is one. -/
def Response.number : Response → Option Word16
  | .sequence n => some n
  | .ok => none
  | .count _ => none
  | .packet _ => none
  | .noPacket => none
  | .failed _ => none

/-- The frames on TX are well formed, carry consecutive numbers that end just below TX_SEQ, and are the numbers that `send`
has answered, in the same order (R40 item 4, R136, R138). -/
structure TxInv (s : State) : Prop where
  frames : ∀ f ∈ s.tx, OutboundFrame f
  numbers : ∀ k f, s.tx[k]? = some f → frameNumber f + BitVec.ofNat 16 (s.tx.length - k) = s.txSeq
  answered : s.responses.filterMap Response.number = s.tx.map frameNumber

/-- FAULT.RUNT and the Runt events tell of each other (R92), and a Runt event holds a frame of 1 to 6 bytes (R60). -/
structure RuntInv (s : State) : Prop where
  flagged : s.faultRunt = true ↔ ∃ raw, Diag.runt raw ∈ s.diag
  short : ∀ raw, Diag.runt raw ∈ s.diag → 1 ≤ raw.length ∧ raw.length ≤ 6

/-- The invariant of the block. -/
structure Inv (s : State) : Prop where
  decoder : DecoderInv s
  store : StoreInv s
  tx : TxInv s
  runts : RuntInv s

/-- The noise events of bytes scanned from Idle that never complete a marker and end in Idle, as R80 asks of each Z: every
0x22 met is followed by a byte other than 0x69. None where the condition fails. -/
def quietNoise : Bytes → Option (List Diag)
  | [] => some []
  | [b] => if b = 0x22#8 then none else some [.noise b]
  | b :: c :: rest =>
    if b = 0x22#8 then
      if c = 0x69#8 then none else (quietNoise rest).map (Diag.noise c :: ·)
    else (quietNoise (c :: rest)).map (Diag.noise b :: ·)

/-- What R80 says a stream does: the noise before each frame is reported, then the frame is routed, frame after frame. Each
entry is the noise events and the raw frame. -/
def routedStream (s : State) : List (List Diag × Bytes) → Host.Outcome State Fault Refusal
  | [] => .next s
  | (noise, raw) :: more =>
    match exec (.route raw) { s with diag := s.diag ++ noise } with
    | .next t => routedStream t more
    | .fault r => .fault r
    | .refused r => .refused r

/-- A session whose agents' next steps are the bytes of a stream arriving, and nothing else. -/
def State.receiving (s : State) (stream : Bytes) : State := { s with requests := stream.map Instr.rxByte }

end Sys2Proof.Machine
end

