-- ==== Sys2Proof/Certificates/Slice0/Obligations.lean ====
section
/-! DEFINITION. The statements for the provers, each about every state and every operand it names; an equation of a next state
is also the frame of the instruction: every field it does not name keeps its value. -/

open Sys2Proof Sys2Proof.Machine

/-! ## The machine -/

/-- R25, R190 (the values are the spec's decision D23; SEED is any value, R25). -/
def Obligations.ConstructionGivesTheResetValues : Prop :=
  ∀ (c : Params) (seed : Word16), ∃ s, s = State.construct c seed ∧ s.params = c ∧ s.rxState = .idle ∧ s.rxBuf = [] ∧
    s.rxLen = none ∧ s.txSeq = seed ∧ s.connected = false ∧ s.inq = [] ∧ s.pend = [] ∧ s.faultRunt = false ∧
    s.faultOverflow = false ∧ s.tx = [] ∧ s.diag = [] ∧ s.responses = [] ∧ s.requests = []

/-- The invariant of Safety.lean (R14, R17 to R19, R92, R136, R138) holds after construction, whatever the parameters and the
seed; so it holds of State.reset. -/
def Obligations.ConstructionMeetsTheInvariant : Prop :=
  (∀ (c : Params) (seed : Word16), Inv (State.construct c seed)) ∧ Inv State.reset

/-- Every step keeps the invariant: the decoder's invariants of R14, the packets and capacities of the store (R17 to R19), the
frames on TX with their consecutive numbers and the answers of `send` (R40, R136, R138), runts and their flag (R92). -/
def Obligations.EveryStepKeepsTheInvariant : Prop :=
  ∀ s t : State, Inv s → step s = .next t → Inv t

/-- R38, R39: a step is the next request of the interleaving. The model's choice (log entries 1 and 31): with no request the
block waits; a request with operands the spec excludes is refused. -/
def Obligations.StepRunsTheNextRequest : Prop :=
  ∀ s : State,
    (s.requests = [] → step s = .next s) ∧
    (∀ i rest, s.requests = i :: rest →
      (i.wellFormed = true → step s = exec i { s with requests := rest }) ∧
      (i.wellFormed = false → step s = .refused .illFormed))

/-- The model's choice (log entries 2 and 28): a table word placed by withFetchWord decodes to a well-formed instruction, the
very next step is its `exec`, and placing it changed nothing but CONNECTED, the decoder's registers and the requests. -/
def Obligations.PlacedWordRunsAtTheNextStep : Prop :=
  ∀ (s : State) (nbits w : Nat) (i : Instr), decodeTableWord nbits w = some i →
    i.wellFormed = true ∧
    step (s.withFetchWord nbits w) = exec i { s.withFetchWord nbits w with requests := s.requests } ∧
    s.withFetchWord nbits w = { s with
      connected := true
      rxState := (s.withFetchWord nbits w).rxState
      rxBuf := (s.withFetchWord nbits w).rxBuf
      rxLen := (s.withFetchWord nbits w).rxLen
      requests := i :: s.requests }

/-! ## Encodings -/

/-- Words written out from R54 and R50 (Scenarios A and B of 95_test_vectors.md) decode to what they stand for. -/
def Obligations.WrittenWordsDecode : Prop :=
  decode (.received .idle) [0x22#8] = .instr .rxByteIdleMarker0 [] ∧
  decode (.received .idle) [0x69#8] = .instr (.rxByteIdleNoise 0x69#8) [] ∧
  decode (.received .sawFirstMarker) [0x69#8] = .instr .rxByteSawMarker1 [] ∧
  decode (.received .sawFirstMarker) [0x22#8] = .instr (.rxByteSawFail 0x22#8) [] ∧
  decode (.received .lengthByte) [0x00#8] = .instr (.rxByteInframeLength 0x00#8) [] ∧
  decode (.received .bodyByte) [0x22#8] = .instr (.rxByteInframeBody 0x22#8) [] ∧
  decode .outbound [0x22#8, 0x69#8, 0x06#8, 0x34#8, 0x12#8, 0x01#8, 0x00#8, 0x01#8, 0x05#8] =
    .instr (.frameTx 0x1234#16 1#16 0x05#8 []) [] ∧
  decode .inbound [0x22#8, 0x69#8, 0x03#8, 0xAA#8, 0xBB#8, 0xCC#8, 0x41#8] =
    .instr (.frameRx [0x03#8, 0xAA#8, 0xBB#8, 0xCC#8]) [0x41#8]

/-- Decode and encode agree, for every instruction that has an encoding, with every operand, whatever follows it in the stream
(R50, R53, R54). -/
def Obligations.DecodingUndoesEncoding : Prop :=
  ∀ (i : Instr) (bytes rest : Bytes), i.wellFormed = true → encode i = some bytes →
    decode i.context (bytes ++ rest) = .instr i rest

/-- R54: "every pair (state, byte value) is in exactly one row"; the row that decoding gives is the one whose step exists. -/
def Obligations.DecodedRowIsTheStepTaken : Prop :=
  ∀ (s : State) (b : Byte) (i : Instr), s.connected = true → decode (.received s.place) [b] = .instr i [] →
    i.wellFormed = true ∧ exec i s = exec (.rxByte b) s ∧ ∃ t, exec i s = .next t

/-! ## FrameDecoder -/

/-- R81, the whole of `rx_byte` while connected, in every state that meets R14. -/
def Obligations.RxByteFollowsTheTransitionTable : Prop :=
  ∀ (s : State) (b : Byte), s.connected = true → DecoderInv s →
    (s.rxState = .idle → b = 0x22#8 → exec (.rxByte b) s = .next { s with rxState := .sawFirstMarker }) ∧
    (s.rxState = .idle → b ≠ 0x22#8 → exec (.rxByte b) s = .next { s with diag := s.diag ++ [.noise b] }) ∧
    (s.rxState = .sawFirstMarker → b = 0x69#8 →
      exec (.rxByte b) s = .next { s with rxState := .inFrame, rxBuf := [], rxLen := none }) ∧
    (s.rxState = .sawFirstMarker → b ≠ 0x69#8 →
      exec (.rxByte b) s = .next { s with rxState := .idle, diag := s.diag ++ [.noise b] }) ∧
    (s.rxState = .inFrame → ∀ len more, s.rxBuf ++ [b] = len :: more →
      (more.length = len.toNat → ∃ t,
        exec (.route (len :: more)) { s with rxState := .idle, rxBuf := [], rxLen := none } = .next t ∧
        exec (.rxByte b) s = .next t) ∧
      (more.length ≠ len.toNat →
        exec (.rxByte b) s = .next { s with rxBuf := len :: more, rxLen := some len }))

/-- R43, R141 by the spec's decision D22 and log entry 11: a byte on the line of a session that is not connected is lost
without trace, alone or in a whole frame. -/
def Obligations.BytesAreLostWhileNotConnected : Prop :=
  ∀ (s : State) (b : Byte) (raw : Bytes), s.connected = false →
    exec (.rxByte b) s = .next s ∧ exec (.frameRx raw) s = .next s

/-- R72 (that the byte is not reported is the spec's decision D3): the row of the first marker byte. -/
def Obligations.FirstMarkerIsHeldUnreported : Prop :=
  ∀ s : State, s.connected = true → s.rxState = .idle →
    exec .rxByteIdleMarker0 s = .next { s with rxState := .sawFirstMarker }

/-- R74: the second marker byte, by its row and by `rx_byte`. -/
def Obligations.SecondMarkerOpensAnEmptyFrame : Prop :=
  ∀ s : State, s.connected = true → s.rxState = .sawFirstMarker →
    exec .rxByteSawMarker1 s = .next { s with rxState := .inFrame, rxBuf := [], rxLen := none } ∧
    exec (.rxByte 0x69#8) s = .next { s with rxState := .inFrame, rxBuf := [], rxLen := none }

/-- R71 and R73 (one event per byte, the held 0x22 not among them: the spec's decisions D2 and D3): a byte out of frame is
reported and the decoder is in Idle after it; a failed second marker is not reprocessed as a first one. -/
def Obligations.NoiseIsReportedAndDropped : Prop :=
  ∀ (s : State) (b : Byte), s.connected = true →
    (s.rxState = .idle → b ≠ 0x22#8 →
      exec (.rxByteIdleNoise b) s = .next { s with diag := s.diag ++ [.noise b] }) ∧
    (s.rxState = .sawFirstMarker → b ≠ 0x69#8 →
      exec (.rxByteSawFail b) s = .next { s with rxState := .idle, diag := s.diag ++ [.noise b] })

/-- R75 (tested after every append: the spec's decision D4): in InFrame a byte of any value that does not complete the frame is
appended, and the first one is the length. -/
def Obligations.InFrameBytesAreCollected : Prop :=
  ∀ (s : State) (b : Byte), s.connected = true → s.rxState = .inFrame →
    (s.rxBuf = [] → b ≠ 0x00#8 → exec (.rxByteInframeLength b) s = .next { s with rxBuf := [b], rxLen := some b }) ∧
    (∀ len, s.rxBuf ≠ [] → s.rxLen = some len → s.rxBuf.length ≠ len.toNat →
      exec (.rxByteInframeBody b) s = .next { s with rxBuf := s.rxBuf ++ [b] })

/-- R76 (lengths below 6 included: the spec's decision D4): the byte that makes |RX_BUF| = RX_LEN + 1, in unbounded integers,
hands the buffer to the router inside the same step and leaves the decoder in Idle with nothing collected. -/
def Obligations.CompletedFrameIsRouted : Prop :=
  ∀ (s : State) (b len : Byte), s.connected = true → s.rxState = .inFrame →
    (if s.rxBuf = [] then some b else s.rxLen) = some len → s.rxBuf.length = len.toNat →
    ∃ t, exec (.route (s.rxBuf ++ [b])) { s with rxState := .idle, rxBuf := [], rxLen := none } = .next t ∧
      exec (.rxByteInframeComplete b) s = .next t ∧
      (s.rxBuf = [] → exec (.rxByteInframeLength b) s = .next t) ∧
      (s.rxBuf ≠ [] → exec (.rxByteInframeBody b) s = .next t)

/-- The model's choice (log entry 10): a row that is a branch of an operation is stuck exactly where the dispatch of R54, R70,
R90 or R135 does not select it. -/
def Obligations.UnselectedBranchHasNoStep : Prop :=
  ∀ (s : State) (b : Byte) (raw : Bytes) (h n : Word16),
    (exec .rxByteIdleMarker0 s = .fault .noStep ↔ ¬(s.connected = true ∧ s.rxState = .idle)) ∧
    (exec (.rxByteIdleNoise b) s = .fault .noStep ↔ ¬(s.connected = true ∧ s.rxState = .idle ∧ b ≠ 0x22#8)) ∧
    (exec .rxByteSawMarker1 s = .fault .noStep ↔ ¬(s.connected = true ∧ s.rxState = .sawFirstMarker)) ∧
    (exec (.rxByteSawFail b) s = .fault .noStep ↔
      ¬(s.connected = true ∧ s.rxState = .sawFirstMarker ∧ b ≠ 0x69#8)) ∧
    (exec (.rxByteInframeLength b) s = .fault .noStep ↔
      ¬(s.connected = true ∧ s.rxState = .inFrame ∧ s.rxBuf = [])) ∧
    (exec (.rxByteInframeBody b) s = .fault .noStep ↔
      ¬(s.connected = true ∧ s.rxState = .inFrame ∧ s.rxBuf ≠ [])) ∧
    (exec (.rxByteInframeComplete b) s = .fault .noStep ↔
      ¬(s.connected = true ∧ s.rxState = .inFrame ∧
        ∃ len, (if s.rxBuf = [] then some b else s.rxLen) = some len ∧ s.rxBuf.length = len.toNat)) ∧
    (exec (.routeRunt raw) s = .fault .noStep ↔ ¬raw.length < 7) ∧
    (exec (.routeDecode raw) s = .fault .noStep ↔ ¬7 ≤ raw.length) ∧
    (exec (.frameTx h n b raw) s = .fault .noStep ↔
      ¬(s.connected = true ∧ 6 + raw.length ≤ 255 ∧ n = s.txSeq))

/-- R77 (nothing is reported: the spec's decision D6): the decoder forgets the partial frame, in every state, and nothing else
changes. -/
def Obligations.ResetForgetsThePartialFrame : Prop :=
  ∀ s : State, exec .reset s = .next { s with rxState := .idle, rxBuf := [], rxLen := none }

/-- R34 by the spec's decision D28 and log entry 12: a frame received in one step is its bytes received one by one. -/
def Obligations.FrameIsItsBytesInOrder : Prop :=
  ∀ (s : State) (raw : Bytes), ∃ t, exec (.frameRx raw) { s with requests := [] } = .next t ∧
    core.run (raw.length + 2) (s.receiving (0x22#8 :: 0x69#8 :: raw)) = .next t

/-- R80 for one frame (completion at any length byte: the spec's decision D4, log entry 15): from Idle a whole frame, whatever
its length byte and its contents, is routed once, with nothing reported by the decoder, which is in Idle again. That a whole
frame is one step, frame.rx, is the model's choice, log entry 12. -/
def Obligations.FrameFromIdleIsRoutedOnce : Prop :=
  ∀ (s : State) (raw : Bytes), s.connected = true → s.rxState = .idle → s.rxBuf = [] → s.rxLen = none →
    rawFrameOk raw = true →
    ∃ t, exec (.route raw) s = .next t ∧ exec (.frameRx raw) s = .next t

/-- R80, whole: frames with quiet noise before, between and after them are each routed once, in order, unaltered, and the noise
is reported in stream order, but for each 0x22 that was held. -/
def Obligations.StreamIsFramedWithoutLoss : Prop :=
  ∀ (s : State) (pieces : List (Bytes × List Diag × Bytes)) (last : Bytes) (lastNoise : List Diag),
    s.connected = true → s.rxState = .idle → s.rxBuf = [] → s.rxLen = none →
    (∀ w ∈ pieces, quietNoise w.1 = some w.2.1 ∧ rawFrameOk w.2.2 = true) → quietNoise last = some lastNoise →
    ∃ t, routedStream { s with requests := [] } (pieces.map Prod.snd) = .next t ∧
      t.rxState = .idle ∧ t.rxBuf = [] ∧
      ∀ stream, stream = pieces.flatMap (fun w => w.1 ++ 0x22#8 :: 0x69#8 :: w.2.2) ++ last →
        core.run stream.length (s.receiving stream) = .next { t with diag := t.diag ++ lastNoise }

/-! ## PacketRouter -/

/-- R90 (runts: the spec's decision D5, log entry 15): every frame takes exactly one of the four branches, and `route` is that
branch. That the branches are instructions of their own, and that those not taken answer noStep, is the model's choice, log
entry 10. -/
def Obligations.RouteTakesExactlyOneBranch : Prop :=
  ∀ (s : State) (raw : Bytes), ∃ t, exec (.route raw) s = .next t ∧
    (raw.length < 7 → exec (.routeRunt raw) s = .next t) ∧
    (7 ≤ raw.length → exec (.routeDecode raw) s = .next t ∧
      ((exec (.routeBoot (decodePacket raw)) s = .next t ∧ exec (.routeLog (decodePacket raw)) s = .fault .noStep ∧
          exec (.routeStore (decodePacket raw)) s = .fault .noStep) ∨
        (exec (.routeLog (decodePacket raw)) s = .next t ∧ exec (.routeBoot (decodePacket raw)) s = .fault .noStep ∧
          exec (.routeStore (decodePacket raw)) s = .fault .noStep) ∨
        (exec (.routeStore (decodePacket raw)) s = .next t ∧ exec (.routeBoot (decodePacket raw)) s = .fault .noStep ∧
          exec (.routeLog (decodePacket raw)) s = .fault .noStep)))

/-- R92 (the spec's decision D5): a runt frame sets the sticky flag, is reported, and is stored nowhere. -/
def Obligations.RuntFrameIsFlaggedNotStored : Prop :=
  ∀ (s : State) (raw : Bytes), raw.length < 7 →
    exec (.routeRunt raw) s = .next { s with faultRunt := true, diag := s.diag ++ [.runt raw] } ∧
    exec (.route raw) s = .next { s with faultRunt := true, diag := s.diag ++ [.runt raw] }

/-- R91: the fields of a raw frame, byte by byte, and the invariant of the packet. -/
def Obligations.PacketFieldsComeFromTheirBytes : Prop :=
  ∀ (f0 f1 f2 f3 f4 f5 f6 : Byte) (payload : Bytes) (p : Packet),
    p = decodePacket (f0 :: f1 :: f2 :: f3 :: f4 :: f5 :: f6 :: payload) →
    p.length = f0 ∧ p.hardwareId.toNat = f1.toNat + 256 * f2.toNat ∧ p.sequence.toNat = f3.toNat + 256 * f4.toNat ∧
    p.systemId = f5 ∧ p.commandId = f6 ∧ p.payload = payload ∧
    (rawFrameOk (f0 :: f1 :: f2 :: f3 :: f4 :: f5 :: f6 :: payload) = true →
      p.length.toNat = 6 + p.payload.length ∧ p.payload.length ≤ 249)

/-- R93: which of the three outcomes exists for a packet, tested strictly in the order boot, log, store. The text of a payload
is the payload if TEXT_OK holds of it, the empty string otherwise (the spec's decisions D7, D8; the predicate as plain data or
unknown is log entry 5). That an outcome's row has a next state exactly where it is the outcome is the model's choice, log
entry 10. -/
def Obligations.ClassificationGoesInOrder : Prop :=
  ∀ (s : State) (p : Packet) (isBoot isLog : Prop) (text : Bytes),
    text = (if textOk s.params.textRule p.payload then p.payload else []) →
    (isBoot ↔ p.commandId = s.params.diagnosticCmd ∧ ∃ b ∈ s.params.bootBanners.all, (b.first :: b.rest) <:+: text) →
    (isLog ↔ p.commandId = s.params.diagnosticCmd ∧ ∃ rest, p.payload = 0x02#8 :: rest) →
    ((∃ t, exec (.routeBoot p) s = .next t) ↔ isBoot) ∧
    ((∃ t, exec (.routeLog p) s = .next t) ↔ ¬isBoot ∧ isLog) ∧
    ((∃ t, exec (.routeStore p) s = .next t) ↔ ¬isBoot ∧ ¬isLog)

/-- R94 (the message is the whole decoded text: the spec's decision D10): a boot announcement is reported and not stored. -/
def Obligations.BootAnnouncementIsReportedNotStored : Prop :=
  ∀ (s : State) (p : Packet) (b : Banner), p.commandId = s.params.diagnosticCmd →
    textOk s.params.textRule p.payload = true → b ∈ s.params.bootBanners.all → (b.first :: b.rest) <:+: p.payload →
    exec (.routeBoot p) s = .next { s with diag := s.diag ++ [.boot p.hardwareId p.payload] }

/-- R95 (the message is raw: the spec's decision D10): a log line is reported without its marker byte and not stored. -/
def Obligations.LogLineIsReportedNotStored : Prop :=
  ∀ (s : State) (p : Packet) (message : Bytes), p.commandId = s.params.diagnosticCmd → p.payload = 0x02#8 :: message →
    (textOk s.params.textRule p.payload = false ∨
      ∀ b ∈ s.params.bootBanners.all, ¬(b.first :: b.rest) <:+: p.payload) →
    exec (.routeLog p) s = .next { s with diag := s.diag ++ [.log p.sequence message] }

/-- R96: an operational packet, any that is not of the diagnostic command among them, is handed to `enqueue` whole, with no
event. -/
def Obligations.OperationalPacketIsEnqueued : Prop :=
  ∀ (s : State) (p : Packet),
    (p.commandId ≠ s.params.diagnosticCmd ∨
      ((textOk s.params.textRule p.payload = false ∨ ∀ b ∈ s.params.bootBanners.all, ¬(b.first :: b.rest) <:+: p.payload) ∧
        ∀ rest, p.payload ≠ 0x02#8 :: rest)) →
    ∃ t, exec (.enqueue p) s = .next t ∧ exec (.routeStore p) s = .next t ∧ t.diag = s.diag

/-- "A diagnostic packet whose payload's first byte is 0x02 is never observable via any take call" (R95, R214): no instruction
but an enqueue made directly puts such a packet into the store, and none answers one that was not there. -/
def Obligations.LogLinesNeverReachTheStore : Prop :=
  ∀ (i : Instr) (s t : State) (logLine : Packet → Prop),
    (∀ p, logLine p ↔ p.commandId = s.params.diagnosticCmd ∧ ∃ rest, p.payload = 0x02#8 :: rest) →
    (∀ p, i ≠ .enqueue p) → exec i s = .next t → (∀ p ∈ s.inq ++ s.pend, ¬logLine p) →
    (∀ p ∈ t.inq ++ t.pend, ¬logLine p) ∧
    (∀ p, Response.packet p ∈ t.responses → logLine p → Response.packet p ∈ s.responses)

/-! ## PacketStore -/

/-- R111 and R120 (finite depths: the spec's decision D11): a packet is appended to INQ if there is room, and otherwise the
overflow is marked and INQ stays. -/
def Obligations.EnqueueAppendsOrOverflows : Prop :=
  ∀ (s : State) (p : Packet),
    ((s.params.inqDepth = none ∨ ∃ d, s.params.inqDepth = some d ∧ s.inq.length < d) →
      exec (.enqueue p) s = .next { s with inq := s.inq ++ [p] }) ∧
    (∀ d, s.params.inqDepth = some d → d ≤ s.inq.length → exec (.enqueue p) s = .next { s with faultOverflow := true })

/-- R112 and R120 (one atomic move: D12; finite depths: D11): all of INQ goes to the end of PEND in order and the new count is
answered; over the depth, the oldest that fit go, the rest stay and the overflow is marked. -/
def Obligations.DrainMovesTheQueueInOrder : Prop :=
  ∀ s : State,
    ((s.params.pendDepth = none ∨ ∃ d, s.params.pendDepth = some d ∧ s.pend.length + s.inq.length ≤ d) →
      exec .drain s = .next { s with
        pend := s.pend ++ s.inq
        inq := []
        responses := s.responses ++ [.count (s.pend.length + s.inq.length)] }) ∧
    (∀ d, s.params.pendDepth = some d → d < s.pend.length + s.inq.length → s.pend.length ≤ d →
      exec .drain s = .next { s with
        pend := s.pend ++ s.inq.take (d - s.pend.length)
        inq := s.inq.drop (d - s.pend.length)
        faultOverflow := true
        responses := s.responses ++ [.count d] }) ∧
    (∀ t, exec .drain s = .next t → t.pend ++ t.inq = s.pend ++ s.inq)

/-- R114: `take` with `seq`, by its row and by `take`: drained first, the first match removed and returned, the order of the
rest kept; None if there is no match; a `cmd` given beside it changes nothing; a second call for a number that only one packet
had answers None. -/
def Obligations.TakeBySequenceReturnsTheFirstMatch : Prop :=
  ∀ (s : State) (n : Word16) (cmd : Option Byte), ∃ u, exec .drain s = .next u ∧
    exec (.take cmd (some n)) s = exec (.takeSeq n cmd) s ∧
    (∀ before p after, u.pend = before ++ p :: after → (∀ q ∈ before, q.sequence ≠ n) → p.sequence = n →
      exec (.takeSeq n cmd) s = .next { u with pend := before ++ after, responses := s.responses ++ [.packet p] }) ∧
    ((∀ q ∈ u.pend, q.sequence ≠ n) →
      exec (.takeSeq n cmd) s = .next { u with responses := s.responses ++ [.noPacket] }) ∧
    (∀ before p after t, u.pend = before ++ p :: after → p.sequence = n →
      (∀ q ∈ before ++ after ++ u.inq, q.sequence ≠ n) → exec (.takeSeq n cmd) s = .next t →
      ∃ v, exec (.takeSeq n cmd) t = .next v ∧ v.responses = t.responses ++ [.noPacket])

/-- R115: `take` with `cmd` alone. -/
def Obligations.TakeByCommandReturnsTheFirstMatch : Prop :=
  ∀ (s : State) (c : Byte), ∃ u, exec .drain s = .next u ∧
    exec (.take (some c) none) s = exec (.takeCmd c) s ∧
    (∀ before p after, u.pend = before ++ p :: after → (∀ q ∈ before, q.commandId ≠ c) → p.commandId = c →
      exec (.takeCmd c) s = .next { u with pend := before ++ after, responses := s.responses ++ [.packet p] }) ∧
    ((∀ q ∈ u.pend, q.commandId ≠ c) →
      exec (.takeCmd c) s = .next { u with responses := s.responses ++ [.noPacket] })

/-- R116: `take` with neither filter pops the oldest. -/
def Obligations.TakeWithoutFilterPopsTheOldest : Prop :=
  ∀ s : State, ∃ u, exec .drain s = .next u ∧
    exec (.take none none) s = exec .takeFifo s ∧
    (∀ p rest, u.pend = p :: rest →
      exec .takeFifo s = .next { u with pend := rest, responses := s.responses ++ [.packet p] }) ∧
    (u.pend = [] → exec .takeFifo s = .next { u with responses := s.responses ++ [.noPacket] })

/-- R113: every `take` completes in one step, drains first, returns one pending packet and removes it or answers None, and its
branch depends only on which arguments are present, `seq` first. -/
def Obligations.TakeDispatchesOnPresence : Prop :=
  ∀ (s : State) (cmd : Option Byte) (seq : Option Word16), ∃ t u, exec (.take cmd seq) s = .next t ∧
    (∀ n, seq = some n → exec (.takeSeq n cmd) s = .next t) ∧
    (∀ c, seq = none → cmd = some c → exec (.takeCmd c) s = .next t) ∧
    (seq = none → cmd = none → exec .takeFifo s = .next t) ∧
    exec .drain s = .next u ∧
    (t = { u with responses := s.responses ++ [.noPacket] } ∨
      ∃ before p after, u.pend = before ++ p :: after ∧
        t = { u with pend := before ++ after, responses := s.responses ++ [.packet p] })

/-- R114 corner (d), R36: where exactly one stored packet has the number and none arrives between, `take(seq)` returns it and
an immediate second call returns None. -/
def Obligations.SecondTakeOfTheSameNumberFindsNothing : Prop :=
  ∀ (s t : State) (n : Word16) (p : Packet) (before after : List Packet), s.params.pendDepth = none →
    s.pend ++ s.inq = before ++ p :: after → p.sequence = n → (∀ q ∈ before ++ after, q.sequence ≠ n) →
    exec (.take none (some n)) s = .next t →
    t.responses = s.responses ++ [.packet p] ∧ t.pend = before ++ after ∧
    exec (.take none (some n)) t = .next { t with responses := t.responses ++ [.noPacket] }

/-- R118 (without time, at least one poll: the spec's decision D13; the re-entry of the call is log entry 9): one poll of
`takeWithTimeout`, for the three things that can come of it. -/
def Obligations.PollReturnsTimesOutOrGoesOn : Prop :=
  ∀ (s : State) (cmd : Option Byte) (seq : Option Word16) (timeout : Nat), ∃ u r,
    exec (.take cmd seq) s = .next u ∧ u.responses = s.responses ++ [r] ∧
    ((∃ p, r = .packet p ∧ exec (.takeWithTimeout cmd seq timeout) s = .next u) ∨
      (r = .noPacket ∧
        (∀ more, s.deadlineAnswers = none :: more →
          exec (.takeWithTimeout cmd seq timeout) s = .next { u with
            deadlineAnswers := more, responses := s.responses ++ [.failed .timeout] }) ∧
        (∀ k more, s.deadlineAnswers = some k :: more →
          exec (.takeWithTimeout cmd seq timeout) s = .next { u with
            deadlineAnswers := more, responses := s.responses
            requests := s.requests.take k ++ Instr.takeWithTimeout cmd seq timeout :: s.requests.drop k }) ∧
        (s.deadlineAnswers = [] → Config.deadlineAnswer s.asked = none →
          exec (.takeWithTimeout cmd seq timeout) s = .next { u with
            asked := s.asked + 1, responses := s.responses ++ [.failed .timeout] }) ∧
        (∀ k, s.deadlineAnswers = [] → Config.deadlineAnswer s.asked = some k →
          exec (.takeWithTimeout cmd seq timeout) s = .next { u with
            asked := s.asked + 1, responses := s.responses
            requests := s.requests.take k ++ Instr.takeWithTimeout cmd seq timeout :: s.requests.drop k })))

/-- R118, R162: however often the environment says "not yet", the call fails with Timeout at the poll after which the deadline
has passed, the store drained and nothing removed. -/
def Obligations.TimeoutComesWithTheDeadline : Prop :=
  ∀ (s : State) (seq : Word16) (timeout polls : Nat) (later : List (Option Nat)), s.params.pendDepth = none →
    s.requests = [.takeWithTimeout none (some seq) timeout] → (∀ p ∈ s.pend ++ s.inq, p.sequence ≠ seq) →
    s.deadlineAnswers = List.replicate polls (some 0) ++ none :: later →
    core.run (polls + 1) s = .next { s with
      pend := s.pend ++ s.inq
      inq := []
      requests := []
      deadlineAnswers := later
      responses := s.responses ++ [.failed .timeout] }

/-- R119 (no response: the spec's decision D14): `clean` drains, then empties PEND or removes exactly the packets of that
command, the others staying in order. -/
def Obligations.CleanRemovesAllOrOneCommand : Prop :=
  ∀ s : State, ∃ u, exec .drain s = .next u ∧
    exec (.clean none) s = .next { u with pend := [], responses := s.responses } ∧
    (∀ c, exec (.clean (some c)) s = .next { u with
      pend := u.pend.filter (fun p => decide (p.commandId ≠ c)), responses := s.responses })

/-! ## LinkSession -/

/-- R131 (a refusing Transport: the spec's decision D25; the answers: log entry 8): `open` on a session that is not connected
asks the Transport and connects, or fails and stays as it is. -/
def Obligations.OpenConnectsIfTheTransportAccepts : Prop :=
  ∀ (s : State) (more : List Bool), s.connected = false →
    (s.transportAnswers = true :: more → exec .openSession s = .next { s with
      connected := true, transportAnswers := more
      transportCalls := s.transportCalls ++ [.opening], responses := s.responses ++ [.ok] }) ∧
    (s.transportAnswers = false :: more → exec .openSession s = .next { s with
      transportAnswers := more, transportCalls := s.transportCalls ++ [.opening]
      responses := s.responses ++ [.failed .transportOpenFailed] }) ∧
    (s.transportAnswers = [] → exec .openSession s = .next { s with
      connected := Config.transportOpens s.asked, asked := s.asked + 1
      transportCalls := s.transportCalls ++ [.opening]
      responses := s.responses ++ [if Config.transportOpens s.asked then .ok else .failed .transportOpenFailed] })

/-- R131, R165 (the parameter: the spec's decision D18): a second `open` changes nothing but its response. -/
def Obligations.SecondOpenChangesNothing : Prop :=
  ∀ s : State, s.connected = true → exec .openSession s = .next { s with
    responses := s.responses ++ [if s.params.openTwiceReports then .failed .alreadyOpen else .ok] }

/-- R132 (not connected: D19; the parameter: D20): `close` ends the connection, keeps the store, the counter and, unless
CLOSE_RESETS_DECODER, the partial frame; on a session that is not connected it only answers Ok. -/
def Obligations.CloseKeepsTheStore : Prop :=
  ∀ s : State,
    (s.connected = true → s.params.closeResetsDecoder = false → exec .closeSession s = .next { s with
      connected := false, transportCalls := s.transportCalls ++ [.closing], responses := s.responses ++ [.ok] }) ∧
    (s.connected = true → s.params.closeResetsDecoder = true → exec .closeSession s = .next { s with
      connected := false, rxState := .idle, rxBuf := [], rxLen := none
      transportCalls := s.transportCalls ++ [.closing], responses := s.responses ++ [.ok] }) ∧
    (s.connected = false → exec .closeSession s = .next { s with responses := s.responses ++ [.ok] })

/-- R133 (also while not connected: the spec's decision D29): a disconnect resets the decoder, ends the connection and touches
nothing else. -/
def Obligations.DisconnectResetsTheDecoderOnly : Prop :=
  ∀ s : State, exec .disconnect s = .next { s with
    rxState := .idle, rxBuf := [], rxLen := none, connected := false }

/-- R136, and R138 for the number: `send` on a connected session with a payload of at most 249 bytes (the only bound: the spec's
decision D27, log entry 24) writes one frame, byte for byte, after every earlier one, answers the number in it and counts. That
the write never fails while connected is the spec's decision D17, log entry 21 (unsafe); that the frame.tx row is that step is
the model's choice, log entry 13. -/
def Obligations.SendWritesTheFrameAndCounts : Prop :=
  ∀ (s : State) (h : Word16) (c : Byte) (payload frame : Bytes), s.connected = true → payload.length ≤ 249 →
    frame = [0x22#8, 0x69#8, BitVec.ofNat 8 (6 + payload.length),
      BitVec.ofNat 8 (h.toNat % 256), BitVec.ofNat 8 (h.toNat / 256),
      BitVec.ofNat 8 (s.txSeq.toNat % 256), BitVec.ofNat 8 (s.txSeq.toNat / 256), 0x01#8, c] ++ payload →
    frame.length = 9 + payload.length ∧
    exec (.send h c payload) s = .next { s with
      tx := s.tx ++ [frame], txSeq := s.txSeq + 1, responses := s.responses ++ [.sequence s.txSeq] } ∧
    exec (.frameTx h s.txSeq c payload) s = .next { s with
      tx := s.tx ++ [frame], txSeq := s.txSeq + 1, responses := s.responses ++ [.sequence s.txSeq] }

/-- R135, R139 (the order of the checks and the unused number: the spec's decisions D15 and D16): a failing `send` answers its
error condition and changes nothing else. -/
def Obligations.FailedSendChangesNothing : Prop :=
  ∀ (s : State) (h : Word16) (c : Byte) (payload : Bytes),
    (s.connected = false →
      exec (.send h c payload) s = .next { s with responses := s.responses ++ [.failed .notConnected] }) ∧
    (s.connected = true → 255 < 6 + payload.length →
      exec (.send h c payload) s = .next { s with responses := s.responses ++ [.failed .validationError] })

/-- R138: a successful `send` answers the counter's value before the step, the same that its frame carries, and moves the
counter by one modulo 65536; nothing else moves it (a failing `send` moves nothing: the spec's decision D16, log entry 20). That
every `send` of a connected session with at most 249 bytes succeeds rests on the spec's decisions D17 (the write never fails, log
entry 21, unsafe) and D27 (no other bound, log entry 24); that frame.tx, the TX event of a successful `send`, is a step that
counts is the model's choice, log entry 13. -/
def Obligations.OnlySendMovesTheCounter : Prop :=
  (∀ (s : State) (h : Word16) (c : Byte) (payload : Bytes), s.connected = true → payload.length ≤ 249 →
    ∃ t frame, exec (.send h c payload) s = .next t ∧ t.txSeq.toNat = (s.txSeq.toNat + 1) % 65536 ∧
      t.responses = s.responses ++ [.sequence s.txSeq] ∧ t.tx = s.tx ++ [frame] ∧ frameNumber frame = s.txSeq) ∧
  (∀ (i : Instr) (s t : State), exec i s = .next t →
    (t.txSeq = s.txSeq ∧ t.tx = s.tx) ∨
    (s.connected = true ∧ t.txSeq.toNat = (s.txSeq.toNat + 1) % 65536 ∧
      t.responses = s.responses ++ [.sequence s.txSeq] ∧ (∃ frame, t.tx = s.tx ++ [frame] ∧ frameNumber frame = s.txSeq) ∧
      ∃ h c payload, i = .send h c payload ∨ i = .frameTx h s.txSeq c payload))

/-- R140(a): successive sends of a connected session return S, S + 1, … modulo 65536, and each frame carries its number. R140
supposes that all the calls succeed; that they do here rests on the spec's decisions D17 (a write never fails while connected,
log entry 21, unsafe) and D27 (249 bytes is the only bound, log entry 24). -/
def Obligations.SuccessiveSendsCountUp : Prop :=
  ∀ (s : State) (calls : List (Word16 × Byte × Bytes)), s.connected = true → (∀ k ∈ calls, k.2.2.length ≤ 249) →
    s.requests = calls.map (fun k => Instr.send k.1 k.2.1 k.2.2) →
    ∃ t, core.run calls.length s = .next t ∧
      t.responses = s.responses ++ (List.range calls.length).map (fun k => .sequence (s.txSeq + BitVec.ofNat 16 k)) ∧
      t.txSeq = s.txSeq + BitVec.ofNat 16 calls.length ∧
      t.tx.map frameNumber =
        s.tx.map frameNumber ++ (List.range calls.length).map (fun k => s.txSeq + BitVec.ofNat 16 k)

/-- R140(b): what `send` writes, fed byte by byte to a decoder in Idle, is routed once, and its packet has the fields sent,
systemId 1 and length 6 + |P|; no noise and no runt is reported, and the decoder is in Idle again. -/
def Obligations.SentFrameComesBackWhole : Prop :=
  ∀ (s u r : State) (h : Word16) (c : Byte) (payload frame : Bytes),
    s.connected = true → payload.length ≤ 249 → exec (.send h c payload) s = .next u → u.tx = s.tx ++ [frame] →
    r.connected = true → r.rxState = .idle → r.rxBuf = [] → r.rxLen = none →
    ∃ t, core.run frame.length (r.receiving frame) = .next t ∧
      exec (.routeDecode (frame.drop 2)) { r with requests := [] } = .next t ∧
      decodePacket (frame.drop 2) = ⟨BitVec.ofNat 8 (6 + payload.length), h, s.txSeq, 0x01#8, c, payload⟩ ∧
      t.rxState = .idle ∧ t.rxBuf = [] ∧ t.faultRunt = r.faultRunt ∧ (∀ b, Diag.noise b ∈ t.diag → Diag.noise b ∈ r.diag)

/-! ## The whole machine -/

/-- R26: reception, routing and the decoder's reset leave the session, the pending list and the other ports alone. -/
def Obligations.ReceptionLeavesTheSessionAlone : Prop :=
  ∀ (i : Instr) (s t : State),
    (i = .rxByteIdleMarker0 ∨ i = .rxByteSawMarker1 ∨ i = .reset ∨ (∃ b, i = .rxByteIdleNoise b) ∨
      (∃ b, i = .rxByteSawFail b) ∨ (∃ b, i = .rxByteInframeLength b) ∨ (∃ b, i = .rxByteInframeBody b) ∨
      (∃ b, i = .rxByteInframeComplete b) ∨ (∃ b, i = .rxByte b) ∨ (∃ raw, i = .frameRx raw) ∨
      (∃ raw, i = .routeRunt raw) ∨ (∃ raw, i = .routeDecode raw) ∨ (∃ raw, i = .route raw) ∨
      (∃ p, i = .routeBoot p) ∨ (∃ p, i = .routeLog p) ∨ (∃ p, i = .routeStore p) ∨ ∃ p, i = .enqueue p) →
    exec i s = .next t →
    t.txSeq = s.txSeq ∧ t.connected = s.connected ∧ t.pend = s.pend ∧ t.tx = s.tx ∧ t.responses = s.responses ∧
    t.transportCalls = s.transportCalls ∧ t.requests = s.requests ∧ s.inq <+: t.inq

/-- R26, R110: the store's operations leave the decoder, the session and the other ports alone, and work the same whether
connected or not. -/
def Obligations.StoreOperationsLeaveTheDecoderAlone : Prop :=
  ∀ (i : Instr) (s t : State),
    (i = .drain ∨ i = .takeFifo ∨ (∃ c n, i = .take c n) ∨ (∃ n c, i = .takeSeq n c) ∨ (∃ c, i = .takeCmd c) ∨
      (∃ c n d, i = .takeWithTimeout c n d) ∨ (∃ c, i = .clean c) ∨ ∃ p, i = .enqueue p) →
    exec i s = .next t →
    t.rxState = s.rxState ∧ t.rxBuf = s.rxBuf ∧ t.rxLen = s.rxLen ∧ t.txSeq = s.txSeq ∧ t.connected = s.connected ∧
    t.faultRunt = s.faultRunt ∧ t.tx = s.tx ∧ t.diag = s.diag ∧ t.transportCalls = s.transportCalls ∧
    exec i { s with connected := !s.connected } = .next { t with connected := !s.connected }

/-- R19, R26 for the store and the fault flags (R131 to R133 for the store): no operation of the session, nor the decoder's
reset, touches them. That the diagnostic port stays silent too where a partial frame is discarded, by `reset`, `disconnect` or
`close`, is the spec's decision D6, log entry 16 (unsafe); frame.tx as a step is log entry 13, `reset` requested directly log
entry 30, the reset inside `close` the parameter of D20, log entry 23. -/
def Obligations.SessionOperationsLeaveTheStoreAlone : Prop :=
  ∀ (i : Instr) (s t : State),
    (i = .openSession ∨ i = .closeSession ∨ i = .disconnect ∨ i = .reset ∨ (∃ h c p, i = .send h c p) ∨
      ∃ h n c p, i = .frameTx h n c p) →
    exec i s = .next t →
    t.inq = s.inq ∧ t.pend = s.pend ∧ t.diag = s.diag ∧ t.faultRunt = s.faultRunt ∧ t.faultOverflow = s.faultOverflow

/-- R79 (and the parameter of D20): in InFrame the decoder keeps what it has collected and stays there until the byte that
completes the frame arrives, or it is reset (by `reset`, `disconnect`, or `close` with CLOSE_RESETS_DECODER); no other step
ends a frame. A whole frame.rx is several such steps. -/
def Obligations.OnlyCompletionOrResetEndsAFrame : Prop :=
  ∀ (i : Instr) (s t : State), s.rxState = .inFrame → (∀ raw, i ≠ .frameRx raw) → exec i s = .next t →
    (t.rxState = .inFrame ∧ s.rxBuf <+: t.rxBuf) ∨
    (t.rxState = .idle ∧ t.rxBuf = [] ∧ t.rxLen = none ∧
      (i = .reset ∨ i = .disconnect ∨ (i = .closeSession ∧ s.params.closeResetsDecoder = true) ∨
        ∃ b len, (if s.rxBuf = [] then some b else s.rxLen) = some len ∧ s.rxBuf.length = len.toNat ∧
          (i = .rxByte b ∨ i = .rxByteInframeLength b ∨ i = .rxByteInframeBody b ∨ i = .rxByteInframeComplete b)))

/-- R16: CONNECTED is set by `open` and cleared by `close` and `disconnect`, and by nothing else. -/
def Obligations.OnlyThreeOperationsMoveConnected : Prop :=
  ∀ (i : Instr) (s t : State), exec i s = .next t →
    (s.connected = false → t.connected = true → i = .openSession) ∧
    (s.connected = true → t.connected = false → i = .closeSession ∨ i = .disconnect)

/-- R23, R40, D33: the parameters stay, a fault flag that is set stays set, and what a port has put out is never taken back. -/
def Obligations.NothingPutOutIsTakenBack : Prop :=
  ∀ (i : Instr) (s t : State), exec i s = .next t →
    t.params = s.params ∧ (s.faultRunt = true → t.faultRunt = true) ∧ (s.faultOverflow = true → t.faultOverflow = true) ∧
    s.tx <+: t.tx ∧ s.diag <+: t.diag ∧ s.responses <+: t.responses ∧ s.transportCalls <+: t.transportCalls

/-- R23: "With the default unbounded depths FAULT.OVERFLOW is never set." -/
def Obligations.UnboundedStoreNeverOverflows : Prop :=
  ∀ (i : Instr) (s t : State), s.params.inqDepth = none → s.params.pendDepth = none → exec i s = .next t →
    t.faultOverflow = s.faultOverflow
end

