-- ==== Sys2Proof/Laws/State.lean ====
section
/-! SUPPORT. What each update of State makes of each field, one lemma each, true by rfl, so that no later proof unfolds a
record update; then the same for the environment's answers, field by field. -/

namespace Sys2Proof.Machine

variable (s : State)

/-! ## setDecoder -/

@[simp] theorem State.setDecoder_params (st : RxState) (buf : Bytes) (len : Option Byte) : (s.setDecoder st buf len).params = s.params := rfl
@[simp] theorem State.setDecoder_rxState (st : RxState) (buf : Bytes) (len : Option Byte) : (s.setDecoder st buf len).rxState = st := rfl
@[simp] theorem State.setDecoder_rxBuf (st : RxState) (buf : Bytes) (len : Option Byte) : (s.setDecoder st buf len).rxBuf = buf := rfl
@[simp] theorem State.setDecoder_rxLen (st : RxState) (buf : Bytes) (len : Option Byte) : (s.setDecoder st buf len).rxLen = len := rfl
@[simp] theorem State.setDecoder_txSeq (st : RxState) (buf : Bytes) (len : Option Byte) : (s.setDecoder st buf len).txSeq = s.txSeq := rfl
@[simp] theorem State.setDecoder_connected (st : RxState) (buf : Bytes) (len : Option Byte) : (s.setDecoder st buf len).connected = s.connected := rfl
@[simp] theorem State.setDecoder_inq (st : RxState) (buf : Bytes) (len : Option Byte) : (s.setDecoder st buf len).inq = s.inq := rfl
@[simp] theorem State.setDecoder_pend (st : RxState) (buf : Bytes) (len : Option Byte) : (s.setDecoder st buf len).pend = s.pend := rfl
@[simp] theorem State.setDecoder_faultRunt (st : RxState) (buf : Bytes) (len : Option Byte) : (s.setDecoder st buf len).faultRunt = s.faultRunt := rfl
@[simp] theorem State.setDecoder_faultOverflow (st : RxState) (buf : Bytes) (len : Option Byte) : (s.setDecoder st buf len).faultOverflow = s.faultOverflow := rfl
@[simp] theorem State.setDecoder_tx (st : RxState) (buf : Bytes) (len : Option Byte) : (s.setDecoder st buf len).tx = s.tx := rfl
@[simp] theorem State.setDecoder_diag (st : RxState) (buf : Bytes) (len : Option Byte) : (s.setDecoder st buf len).diag = s.diag := rfl
@[simp] theorem State.setDecoder_responses (st : RxState) (buf : Bytes) (len : Option Byte) : (s.setDecoder st buf len).responses = s.responses := rfl
@[simp] theorem State.setDecoder_transportCalls (st : RxState) (buf : Bytes) (len : Option Byte) : (s.setDecoder st buf len).transportCalls = s.transportCalls := rfl
@[simp] theorem State.setDecoder_requests (st : RxState) (buf : Bytes) (len : Option Byte) : (s.setDecoder st buf len).requests = s.requests := rfl
@[simp] theorem State.setDecoder_transportAnswers (st : RxState) (buf : Bytes) (len : Option Byte) : (s.setDecoder st buf len).transportAnswers = s.transportAnswers := rfl
@[simp] theorem State.setDecoder_deadlineAnswers (st : RxState) (buf : Bytes) (len : Option Byte) : (s.setDecoder st buf len).deadlineAnswers = s.deadlineAnswers := rfl
@[simp] theorem State.setDecoder_asked (st : RxState) (buf : Bytes) (len : Option Byte) : (s.setDecoder st buf len).asked = s.asked := rfl

/-! ## setRxState -/

@[simp] theorem State.setRxState_params (st : RxState) : (s.setRxState st).params = s.params := rfl
@[simp] theorem State.setRxState_rxState (st : RxState) : (s.setRxState st).rxState = st := rfl
@[simp] theorem State.setRxState_rxBuf (st : RxState) : (s.setRxState st).rxBuf = s.rxBuf := rfl
@[simp] theorem State.setRxState_rxLen (st : RxState) : (s.setRxState st).rxLen = s.rxLen := rfl
@[simp] theorem State.setRxState_txSeq (st : RxState) : (s.setRxState st).txSeq = s.txSeq := rfl
@[simp] theorem State.setRxState_connected (st : RxState) : (s.setRxState st).connected = s.connected := rfl
@[simp] theorem State.setRxState_inq (st : RxState) : (s.setRxState st).inq = s.inq := rfl
@[simp] theorem State.setRxState_pend (st : RxState) : (s.setRxState st).pend = s.pend := rfl
@[simp] theorem State.setRxState_faultRunt (st : RxState) : (s.setRxState st).faultRunt = s.faultRunt := rfl
@[simp] theorem State.setRxState_faultOverflow (st : RxState) : (s.setRxState st).faultOverflow = s.faultOverflow := rfl
@[simp] theorem State.setRxState_tx (st : RxState) : (s.setRxState st).tx = s.tx := rfl
@[simp] theorem State.setRxState_diag (st : RxState) : (s.setRxState st).diag = s.diag := rfl
@[simp] theorem State.setRxState_responses (st : RxState) : (s.setRxState st).responses = s.responses := rfl
@[simp] theorem State.setRxState_transportCalls (st : RxState) : (s.setRxState st).transportCalls = s.transportCalls := rfl
@[simp] theorem State.setRxState_requests (st : RxState) : (s.setRxState st).requests = s.requests := rfl
@[simp] theorem State.setRxState_transportAnswers (st : RxState) : (s.setRxState st).transportAnswers = s.transportAnswers := rfl
@[simp] theorem State.setRxState_deadlineAnswers (st : RxState) : (s.setRxState st).deadlineAnswers = s.deadlineAnswers := rfl
@[simp] theorem State.setRxState_asked (st : RxState) : (s.setRxState st).asked = s.asked := rfl

/-! ## setTxSeq -/

@[simp] theorem State.setTxSeq_params (n : Word16) : (s.setTxSeq n).params = s.params := rfl
@[simp] theorem State.setTxSeq_rxState (n : Word16) : (s.setTxSeq n).rxState = s.rxState := rfl
@[simp] theorem State.setTxSeq_rxBuf (n : Word16) : (s.setTxSeq n).rxBuf = s.rxBuf := rfl
@[simp] theorem State.setTxSeq_rxLen (n : Word16) : (s.setTxSeq n).rxLen = s.rxLen := rfl
@[simp] theorem State.setTxSeq_txSeq (n : Word16) : (s.setTxSeq n).txSeq = n := rfl
@[simp] theorem State.setTxSeq_connected (n : Word16) : (s.setTxSeq n).connected = s.connected := rfl
@[simp] theorem State.setTxSeq_inq (n : Word16) : (s.setTxSeq n).inq = s.inq := rfl
@[simp] theorem State.setTxSeq_pend (n : Word16) : (s.setTxSeq n).pend = s.pend := rfl
@[simp] theorem State.setTxSeq_faultRunt (n : Word16) : (s.setTxSeq n).faultRunt = s.faultRunt := rfl
@[simp] theorem State.setTxSeq_faultOverflow (n : Word16) : (s.setTxSeq n).faultOverflow = s.faultOverflow := rfl
@[simp] theorem State.setTxSeq_tx (n : Word16) : (s.setTxSeq n).tx = s.tx := rfl
@[simp] theorem State.setTxSeq_diag (n : Word16) : (s.setTxSeq n).diag = s.diag := rfl
@[simp] theorem State.setTxSeq_responses (n : Word16) : (s.setTxSeq n).responses = s.responses := rfl
@[simp] theorem State.setTxSeq_transportCalls (n : Word16) : (s.setTxSeq n).transportCalls = s.transportCalls := rfl
@[simp] theorem State.setTxSeq_requests (n : Word16) : (s.setTxSeq n).requests = s.requests := rfl
@[simp] theorem State.setTxSeq_transportAnswers (n : Word16) : (s.setTxSeq n).transportAnswers = s.transportAnswers := rfl
@[simp] theorem State.setTxSeq_deadlineAnswers (n : Word16) : (s.setTxSeq n).deadlineAnswers = s.deadlineAnswers := rfl
@[simp] theorem State.setTxSeq_asked (n : Word16) : (s.setTxSeq n).asked = s.asked := rfl

/-! ## setConnected -/

@[simp] theorem State.setConnected_params (c : Bool) : (s.setConnected c).params = s.params := rfl
@[simp] theorem State.setConnected_rxState (c : Bool) : (s.setConnected c).rxState = s.rxState := rfl
@[simp] theorem State.setConnected_rxBuf (c : Bool) : (s.setConnected c).rxBuf = s.rxBuf := rfl
@[simp] theorem State.setConnected_rxLen (c : Bool) : (s.setConnected c).rxLen = s.rxLen := rfl
@[simp] theorem State.setConnected_txSeq (c : Bool) : (s.setConnected c).txSeq = s.txSeq := rfl
@[simp] theorem State.setConnected_connected (c : Bool) : (s.setConnected c).connected = c := rfl
@[simp] theorem State.setConnected_inq (c : Bool) : (s.setConnected c).inq = s.inq := rfl
@[simp] theorem State.setConnected_pend (c : Bool) : (s.setConnected c).pend = s.pend := rfl
@[simp] theorem State.setConnected_faultRunt (c : Bool) : (s.setConnected c).faultRunt = s.faultRunt := rfl
@[simp] theorem State.setConnected_faultOverflow (c : Bool) : (s.setConnected c).faultOverflow = s.faultOverflow := rfl
@[simp] theorem State.setConnected_tx (c : Bool) : (s.setConnected c).tx = s.tx := rfl
@[simp] theorem State.setConnected_diag (c : Bool) : (s.setConnected c).diag = s.diag := rfl
@[simp] theorem State.setConnected_responses (c : Bool) : (s.setConnected c).responses = s.responses := rfl
@[simp] theorem State.setConnected_transportCalls (c : Bool) : (s.setConnected c).transportCalls = s.transportCalls := rfl
@[simp] theorem State.setConnected_requests (c : Bool) : (s.setConnected c).requests = s.requests := rfl
@[simp] theorem State.setConnected_transportAnswers (c : Bool) : (s.setConnected c).transportAnswers = s.transportAnswers := rfl
@[simp] theorem State.setConnected_deadlineAnswers (c : Bool) : (s.setConnected c).deadlineAnswers = s.deadlineAnswers := rfl
@[simp] theorem State.setConnected_asked (c : Bool) : (s.setConnected c).asked = s.asked := rfl

/-! ## setInq -/

@[simp] theorem State.setInq_params (q : List Packet) : (s.setInq q).params = s.params := rfl
@[simp] theorem State.setInq_rxState (q : List Packet) : (s.setInq q).rxState = s.rxState := rfl
@[simp] theorem State.setInq_rxBuf (q : List Packet) : (s.setInq q).rxBuf = s.rxBuf := rfl
@[simp] theorem State.setInq_rxLen (q : List Packet) : (s.setInq q).rxLen = s.rxLen := rfl
@[simp] theorem State.setInq_txSeq (q : List Packet) : (s.setInq q).txSeq = s.txSeq := rfl
@[simp] theorem State.setInq_connected (q : List Packet) : (s.setInq q).connected = s.connected := rfl
@[simp] theorem State.setInq_inq (q : List Packet) : (s.setInq q).inq = q := rfl
@[simp] theorem State.setInq_pend (q : List Packet) : (s.setInq q).pend = s.pend := rfl
@[simp] theorem State.setInq_faultRunt (q : List Packet) : (s.setInq q).faultRunt = s.faultRunt := rfl
@[simp] theorem State.setInq_faultOverflow (q : List Packet) : (s.setInq q).faultOverflow = s.faultOverflow := rfl
@[simp] theorem State.setInq_tx (q : List Packet) : (s.setInq q).tx = s.tx := rfl
@[simp] theorem State.setInq_diag (q : List Packet) : (s.setInq q).diag = s.diag := rfl
@[simp] theorem State.setInq_responses (q : List Packet) : (s.setInq q).responses = s.responses := rfl
@[simp] theorem State.setInq_transportCalls (q : List Packet) : (s.setInq q).transportCalls = s.transportCalls := rfl
@[simp] theorem State.setInq_requests (q : List Packet) : (s.setInq q).requests = s.requests := rfl
@[simp] theorem State.setInq_transportAnswers (q : List Packet) : (s.setInq q).transportAnswers = s.transportAnswers := rfl
@[simp] theorem State.setInq_deadlineAnswers (q : List Packet) : (s.setInq q).deadlineAnswers = s.deadlineAnswers := rfl
@[simp] theorem State.setInq_asked (q : List Packet) : (s.setInq q).asked = s.asked := rfl

/-! ## setPend -/

@[simp] theorem State.setPend_params (q : List Packet) : (s.setPend q).params = s.params := rfl
@[simp] theorem State.setPend_rxState (q : List Packet) : (s.setPend q).rxState = s.rxState := rfl
@[simp] theorem State.setPend_rxBuf (q : List Packet) : (s.setPend q).rxBuf = s.rxBuf := rfl
@[simp] theorem State.setPend_rxLen (q : List Packet) : (s.setPend q).rxLen = s.rxLen := rfl
@[simp] theorem State.setPend_txSeq (q : List Packet) : (s.setPend q).txSeq = s.txSeq := rfl
@[simp] theorem State.setPend_connected (q : List Packet) : (s.setPend q).connected = s.connected := rfl
@[simp] theorem State.setPend_inq (q : List Packet) : (s.setPend q).inq = s.inq := rfl
@[simp] theorem State.setPend_pend (q : List Packet) : (s.setPend q).pend = q := rfl
@[simp] theorem State.setPend_faultRunt (q : List Packet) : (s.setPend q).faultRunt = s.faultRunt := rfl
@[simp] theorem State.setPend_faultOverflow (q : List Packet) : (s.setPend q).faultOverflow = s.faultOverflow := rfl
@[simp] theorem State.setPend_tx (q : List Packet) : (s.setPend q).tx = s.tx := rfl
@[simp] theorem State.setPend_diag (q : List Packet) : (s.setPend q).diag = s.diag := rfl
@[simp] theorem State.setPend_responses (q : List Packet) : (s.setPend q).responses = s.responses := rfl
@[simp] theorem State.setPend_transportCalls (q : List Packet) : (s.setPend q).transportCalls = s.transportCalls := rfl
@[simp] theorem State.setPend_requests (q : List Packet) : (s.setPend q).requests = s.requests := rfl
@[simp] theorem State.setPend_transportAnswers (q : List Packet) : (s.setPend q).transportAnswers = s.transportAnswers := rfl
@[simp] theorem State.setPend_deadlineAnswers (q : List Packet) : (s.setPend q).deadlineAnswers = s.deadlineAnswers := rfl
@[simp] theorem State.setPend_asked (q : List Packet) : (s.setPend q).asked = s.asked := rfl

/-! ## setRequests -/

@[simp] theorem State.setRequests_params (r : List Instr) : (s.setRequests r).params = s.params := rfl
@[simp] theorem State.setRequests_rxState (r : List Instr) : (s.setRequests r).rxState = s.rxState := rfl
@[simp] theorem State.setRequests_rxBuf (r : List Instr) : (s.setRequests r).rxBuf = s.rxBuf := rfl
@[simp] theorem State.setRequests_rxLen (r : List Instr) : (s.setRequests r).rxLen = s.rxLen := rfl
@[simp] theorem State.setRequests_txSeq (r : List Instr) : (s.setRequests r).txSeq = s.txSeq := rfl
@[simp] theorem State.setRequests_connected (r : List Instr) : (s.setRequests r).connected = s.connected := rfl
@[simp] theorem State.setRequests_inq (r : List Instr) : (s.setRequests r).inq = s.inq := rfl
@[simp] theorem State.setRequests_pend (r : List Instr) : (s.setRequests r).pend = s.pend := rfl
@[simp] theorem State.setRequests_faultRunt (r : List Instr) : (s.setRequests r).faultRunt = s.faultRunt := rfl
@[simp] theorem State.setRequests_faultOverflow (r : List Instr) : (s.setRequests r).faultOverflow = s.faultOverflow := rfl
@[simp] theorem State.setRequests_tx (r : List Instr) : (s.setRequests r).tx = s.tx := rfl
@[simp] theorem State.setRequests_diag (r : List Instr) : (s.setRequests r).diag = s.diag := rfl
@[simp] theorem State.setRequests_responses (r : List Instr) : (s.setRequests r).responses = s.responses := rfl
@[simp] theorem State.setRequests_transportCalls (r : List Instr) : (s.setRequests r).transportCalls = s.transportCalls := rfl
@[simp] theorem State.setRequests_requests (r : List Instr) : (s.setRequests r).requests = r := rfl
@[simp] theorem State.setRequests_transportAnswers (r : List Instr) : (s.setRequests r).transportAnswers = s.transportAnswers := rfl
@[simp] theorem State.setRequests_deadlineAnswers (r : List Instr) : (s.setRequests r).deadlineAnswers = s.deadlineAnswers := rfl
@[simp] theorem State.setRequests_asked (r : List Instr) : (s.setRequests r).asked = s.asked := rfl

/-! ## emitDiag -/

@[simp] theorem State.emitDiag_params (d : Diag) : (s.emitDiag d).params = s.params := rfl
@[simp] theorem State.emitDiag_rxState (d : Diag) : (s.emitDiag d).rxState = s.rxState := rfl
@[simp] theorem State.emitDiag_rxBuf (d : Diag) : (s.emitDiag d).rxBuf = s.rxBuf := rfl
@[simp] theorem State.emitDiag_rxLen (d : Diag) : (s.emitDiag d).rxLen = s.rxLen := rfl
@[simp] theorem State.emitDiag_txSeq (d : Diag) : (s.emitDiag d).txSeq = s.txSeq := rfl
@[simp] theorem State.emitDiag_connected (d : Diag) : (s.emitDiag d).connected = s.connected := rfl
@[simp] theorem State.emitDiag_inq (d : Diag) : (s.emitDiag d).inq = s.inq := rfl
@[simp] theorem State.emitDiag_pend (d : Diag) : (s.emitDiag d).pend = s.pend := rfl
@[simp] theorem State.emitDiag_faultRunt (d : Diag) : (s.emitDiag d).faultRunt = s.faultRunt := rfl
@[simp] theorem State.emitDiag_faultOverflow (d : Diag) : (s.emitDiag d).faultOverflow = s.faultOverflow := rfl
@[simp] theorem State.emitDiag_tx (d : Diag) : (s.emitDiag d).tx = s.tx := rfl
@[simp] theorem State.emitDiag_diag (d : Diag) : (s.emitDiag d).diag = s.diag ++ [d] := rfl
@[simp] theorem State.emitDiag_responses (d : Diag) : (s.emitDiag d).responses = s.responses := rfl
@[simp] theorem State.emitDiag_transportCalls (d : Diag) : (s.emitDiag d).transportCalls = s.transportCalls := rfl
@[simp] theorem State.emitDiag_requests (d : Diag) : (s.emitDiag d).requests = s.requests := rfl
@[simp] theorem State.emitDiag_transportAnswers (d : Diag) : (s.emitDiag d).transportAnswers = s.transportAnswers := rfl
@[simp] theorem State.emitDiag_deadlineAnswers (d : Diag) : (s.emitDiag d).deadlineAnswers = s.deadlineAnswers := rfl
@[simp] theorem State.emitDiag_asked (d : Diag) : (s.emitDiag d).asked = s.asked := rfl

/-! ## emitTx -/

@[simp] theorem State.emitTx_params (f : Bytes) : (s.emitTx f).params = s.params := rfl
@[simp] theorem State.emitTx_rxState (f : Bytes) : (s.emitTx f).rxState = s.rxState := rfl
@[simp] theorem State.emitTx_rxBuf (f : Bytes) : (s.emitTx f).rxBuf = s.rxBuf := rfl
@[simp] theorem State.emitTx_rxLen (f : Bytes) : (s.emitTx f).rxLen = s.rxLen := rfl
@[simp] theorem State.emitTx_txSeq (f : Bytes) : (s.emitTx f).txSeq = s.txSeq := rfl
@[simp] theorem State.emitTx_connected (f : Bytes) : (s.emitTx f).connected = s.connected := rfl
@[simp] theorem State.emitTx_inq (f : Bytes) : (s.emitTx f).inq = s.inq := rfl
@[simp] theorem State.emitTx_pend (f : Bytes) : (s.emitTx f).pend = s.pend := rfl
@[simp] theorem State.emitTx_faultRunt (f : Bytes) : (s.emitTx f).faultRunt = s.faultRunt := rfl
@[simp] theorem State.emitTx_faultOverflow (f : Bytes) : (s.emitTx f).faultOverflow = s.faultOverflow := rfl
@[simp] theorem State.emitTx_tx (f : Bytes) : (s.emitTx f).tx = s.tx ++ [f] := rfl
@[simp] theorem State.emitTx_diag (f : Bytes) : (s.emitTx f).diag = s.diag := rfl
@[simp] theorem State.emitTx_responses (f : Bytes) : (s.emitTx f).responses = s.responses := rfl
@[simp] theorem State.emitTx_transportCalls (f : Bytes) : (s.emitTx f).transportCalls = s.transportCalls := rfl
@[simp] theorem State.emitTx_requests (f : Bytes) : (s.emitTx f).requests = s.requests := rfl
@[simp] theorem State.emitTx_transportAnswers (f : Bytes) : (s.emitTx f).transportAnswers = s.transportAnswers := rfl
@[simp] theorem State.emitTx_deadlineAnswers (f : Bytes) : (s.emitTx f).deadlineAnswers = s.deadlineAnswers := rfl
@[simp] theorem State.emitTx_asked (f : Bytes) : (s.emitTx f).asked = s.asked := rfl

/-! ## respond -/

@[simp] theorem State.respond_params (r : Response) : (s.respond r).params = s.params := rfl
@[simp] theorem State.respond_rxState (r : Response) : (s.respond r).rxState = s.rxState := rfl
@[simp] theorem State.respond_rxBuf (r : Response) : (s.respond r).rxBuf = s.rxBuf := rfl
@[simp] theorem State.respond_rxLen (r : Response) : (s.respond r).rxLen = s.rxLen := rfl
@[simp] theorem State.respond_txSeq (r : Response) : (s.respond r).txSeq = s.txSeq := rfl
@[simp] theorem State.respond_connected (r : Response) : (s.respond r).connected = s.connected := rfl
@[simp] theorem State.respond_inq (r : Response) : (s.respond r).inq = s.inq := rfl
@[simp] theorem State.respond_pend (r : Response) : (s.respond r).pend = s.pend := rfl
@[simp] theorem State.respond_faultRunt (r : Response) : (s.respond r).faultRunt = s.faultRunt := rfl
@[simp] theorem State.respond_faultOverflow (r : Response) : (s.respond r).faultOverflow = s.faultOverflow := rfl
@[simp] theorem State.respond_tx (r : Response) : (s.respond r).tx = s.tx := rfl
@[simp] theorem State.respond_diag (r : Response) : (s.respond r).diag = s.diag := rfl
@[simp] theorem State.respond_responses (r : Response) : (s.respond r).responses = s.responses ++ [r] := rfl
@[simp] theorem State.respond_transportCalls (r : Response) : (s.respond r).transportCalls = s.transportCalls := rfl
@[simp] theorem State.respond_requests (r : Response) : (s.respond r).requests = s.requests := rfl
@[simp] theorem State.respond_transportAnswers (r : Response) : (s.respond r).transportAnswers = s.transportAnswers := rfl
@[simp] theorem State.respond_deadlineAnswers (r : Response) : (s.respond r).deadlineAnswers = s.deadlineAnswers := rfl
@[simp] theorem State.respond_asked (r : Response) : (s.respond r).asked = s.asked := rfl

/-! ## callTransport -/

@[simp] theorem State.callTransport_params (c : TransportCall) : (s.callTransport c).params = s.params := rfl
@[simp] theorem State.callTransport_rxState (c : TransportCall) : (s.callTransport c).rxState = s.rxState := rfl
@[simp] theorem State.callTransport_rxBuf (c : TransportCall) : (s.callTransport c).rxBuf = s.rxBuf := rfl
@[simp] theorem State.callTransport_rxLen (c : TransportCall) : (s.callTransport c).rxLen = s.rxLen := rfl
@[simp] theorem State.callTransport_txSeq (c : TransportCall) : (s.callTransport c).txSeq = s.txSeq := rfl
@[simp] theorem State.callTransport_connected (c : TransportCall) : (s.callTransport c).connected = s.connected := rfl
@[simp] theorem State.callTransport_inq (c : TransportCall) : (s.callTransport c).inq = s.inq := rfl
@[simp] theorem State.callTransport_pend (c : TransportCall) : (s.callTransport c).pend = s.pend := rfl
@[simp] theorem State.callTransport_faultRunt (c : TransportCall) : (s.callTransport c).faultRunt = s.faultRunt := rfl
@[simp] theorem State.callTransport_faultOverflow (c : TransportCall) : (s.callTransport c).faultOverflow = s.faultOverflow := rfl
@[simp] theorem State.callTransport_tx (c : TransportCall) : (s.callTransport c).tx = s.tx := rfl
@[simp] theorem State.callTransport_diag (c : TransportCall) : (s.callTransport c).diag = s.diag := rfl
@[simp] theorem State.callTransport_responses (c : TransportCall) : (s.callTransport c).responses = s.responses := rfl
@[simp] theorem State.callTransport_transportCalls (c : TransportCall) : (s.callTransport c).transportCalls = s.transportCalls ++ [c] := rfl
@[simp] theorem State.callTransport_requests (c : TransportCall) : (s.callTransport c).requests = s.requests := rfl
@[simp] theorem State.callTransport_transportAnswers (c : TransportCall) : (s.callTransport c).transportAnswers = s.transportAnswers := rfl
@[simp] theorem State.callTransport_deadlineAnswers (c : TransportCall) : (s.callTransport c).deadlineAnswers = s.deadlineAnswers := rfl
@[simp] theorem State.callTransport_asked (c : TransportCall) : (s.callTransport c).asked = s.asked := rfl

/-! ## raiseRunt -/

@[simp] theorem State.raiseRunt_params : s.raiseRunt.params = s.params := rfl
@[simp] theorem State.raiseRunt_rxState : s.raiseRunt.rxState = s.rxState := rfl
@[simp] theorem State.raiseRunt_rxBuf : s.raiseRunt.rxBuf = s.rxBuf := rfl
@[simp] theorem State.raiseRunt_rxLen : s.raiseRunt.rxLen = s.rxLen := rfl
@[simp] theorem State.raiseRunt_txSeq : s.raiseRunt.txSeq = s.txSeq := rfl
@[simp] theorem State.raiseRunt_connected : s.raiseRunt.connected = s.connected := rfl
@[simp] theorem State.raiseRunt_inq : s.raiseRunt.inq = s.inq := rfl
@[simp] theorem State.raiseRunt_pend : s.raiseRunt.pend = s.pend := rfl
@[simp] theorem State.raiseRunt_faultRunt : s.raiseRunt.faultRunt = true := rfl
@[simp] theorem State.raiseRunt_faultOverflow : s.raiseRunt.faultOverflow = s.faultOverflow := rfl
@[simp] theorem State.raiseRunt_tx : s.raiseRunt.tx = s.tx := rfl
@[simp] theorem State.raiseRunt_diag : s.raiseRunt.diag = s.diag := rfl
@[simp] theorem State.raiseRunt_responses : s.raiseRunt.responses = s.responses := rfl
@[simp] theorem State.raiseRunt_transportCalls : s.raiseRunt.transportCalls = s.transportCalls := rfl
@[simp] theorem State.raiseRunt_requests : s.raiseRunt.requests = s.requests := rfl
@[simp] theorem State.raiseRunt_transportAnswers : s.raiseRunt.transportAnswers = s.transportAnswers := rfl
@[simp] theorem State.raiseRunt_deadlineAnswers : s.raiseRunt.deadlineAnswers = s.deadlineAnswers := rfl
@[simp] theorem State.raiseRunt_asked : s.raiseRunt.asked = s.asked := rfl

/-! ## raiseOverflow -/

@[simp] theorem State.raiseOverflow_params : s.raiseOverflow.params = s.params := rfl
@[simp] theorem State.raiseOverflow_rxState : s.raiseOverflow.rxState = s.rxState := rfl
@[simp] theorem State.raiseOverflow_rxBuf : s.raiseOverflow.rxBuf = s.rxBuf := rfl
@[simp] theorem State.raiseOverflow_rxLen : s.raiseOverflow.rxLen = s.rxLen := rfl
@[simp] theorem State.raiseOverflow_txSeq : s.raiseOverflow.txSeq = s.txSeq := rfl
@[simp] theorem State.raiseOverflow_connected : s.raiseOverflow.connected = s.connected := rfl
@[simp] theorem State.raiseOverflow_inq : s.raiseOverflow.inq = s.inq := rfl
@[simp] theorem State.raiseOverflow_pend : s.raiseOverflow.pend = s.pend := rfl
@[simp] theorem State.raiseOverflow_faultRunt : s.raiseOverflow.faultRunt = s.faultRunt := rfl
@[simp] theorem State.raiseOverflow_faultOverflow : s.raiseOverflow.faultOverflow = true := rfl
@[simp] theorem State.raiseOverflow_tx : s.raiseOverflow.tx = s.tx := rfl
@[simp] theorem State.raiseOverflow_diag : s.raiseOverflow.diag = s.diag := rfl
@[simp] theorem State.raiseOverflow_responses : s.raiseOverflow.responses = s.responses := rfl
@[simp] theorem State.raiseOverflow_transportCalls : s.raiseOverflow.transportCalls = s.transportCalls := rfl
@[simp] theorem State.raiseOverflow_requests : s.raiseOverflow.requests = s.requests := rfl
@[simp] theorem State.raiseOverflow_transportAnswers : s.raiseOverflow.transportAnswers = s.transportAnswers := rfl
@[simp] theorem State.raiseOverflow_deadlineAnswers : s.raiseOverflow.deadlineAnswers = s.deadlineAnswers := rfl
@[simp] theorem State.raiseOverflow_asked : s.raiseOverflow.asked = s.asked := rfl

/-! ## afterTransportAnswer -/

@[simp] theorem State.afterTransportAnswer_params : s.afterTransportAnswer.params = s.params := by
  unfold State.afterTransportAnswer; split <;> rfl
@[simp] theorem State.afterTransportAnswer_rxState : s.afterTransportAnswer.rxState = s.rxState := by
  unfold State.afterTransportAnswer; split <;> rfl
@[simp] theorem State.afterTransportAnswer_rxBuf : s.afterTransportAnswer.rxBuf = s.rxBuf := by
  unfold State.afterTransportAnswer; split <;> rfl
@[simp] theorem State.afterTransportAnswer_rxLen : s.afterTransportAnswer.rxLen = s.rxLen := by
  unfold State.afterTransportAnswer; split <;> rfl
@[simp] theorem State.afterTransportAnswer_txSeq : s.afterTransportAnswer.txSeq = s.txSeq := by
  unfold State.afterTransportAnswer; split <;> rfl
@[simp] theorem State.afterTransportAnswer_connected : s.afterTransportAnswer.connected = s.connected := by
  unfold State.afterTransportAnswer; split <;> rfl
@[simp] theorem State.afterTransportAnswer_inq : s.afterTransportAnswer.inq = s.inq := by
  unfold State.afterTransportAnswer; split <;> rfl
@[simp] theorem State.afterTransportAnswer_pend : s.afterTransportAnswer.pend = s.pend := by
  unfold State.afterTransportAnswer; split <;> rfl
@[simp] theorem State.afterTransportAnswer_faultRunt : s.afterTransportAnswer.faultRunt = s.faultRunt := by
  unfold State.afterTransportAnswer; split <;> rfl
@[simp] theorem State.afterTransportAnswer_faultOverflow : s.afterTransportAnswer.faultOverflow = s.faultOverflow := by
  unfold State.afterTransportAnswer; split <;> rfl
@[simp] theorem State.afterTransportAnswer_tx : s.afterTransportAnswer.tx = s.tx := by
  unfold State.afterTransportAnswer; split <;> rfl
@[simp] theorem State.afterTransportAnswer_diag : s.afterTransportAnswer.diag = s.diag := by
  unfold State.afterTransportAnswer; split <;> rfl
@[simp] theorem State.afterTransportAnswer_responses : s.afterTransportAnswer.responses = s.responses := by
  unfold State.afterTransportAnswer; split <;> rfl
@[simp] theorem State.afterTransportAnswer_transportCalls : s.afterTransportAnswer.transportCalls = s.transportCalls := by
  unfold State.afterTransportAnswer; split <;> rfl
@[simp] theorem State.afterTransportAnswer_requests : s.afterTransportAnswer.requests = s.requests := by
  unfold State.afterTransportAnswer; split <;> rfl
@[simp] theorem State.afterTransportAnswer_deadlineAnswers : s.afterTransportAnswer.deadlineAnswers = s.deadlineAnswers := by
  unfold State.afterTransportAnswer; split <;> rfl

/-! ## afterDeadlineAnswer -/

@[simp] theorem State.afterDeadlineAnswer_params : s.afterDeadlineAnswer.params = s.params := by
  unfold State.afterDeadlineAnswer; split <;> rfl
@[simp] theorem State.afterDeadlineAnswer_rxState : s.afterDeadlineAnswer.rxState = s.rxState := by
  unfold State.afterDeadlineAnswer; split <;> rfl
@[simp] theorem State.afterDeadlineAnswer_rxBuf : s.afterDeadlineAnswer.rxBuf = s.rxBuf := by
  unfold State.afterDeadlineAnswer; split <;> rfl
@[simp] theorem State.afterDeadlineAnswer_rxLen : s.afterDeadlineAnswer.rxLen = s.rxLen := by
  unfold State.afterDeadlineAnswer; split <;> rfl
@[simp] theorem State.afterDeadlineAnswer_txSeq : s.afterDeadlineAnswer.txSeq = s.txSeq := by
  unfold State.afterDeadlineAnswer; split <;> rfl
@[simp] theorem State.afterDeadlineAnswer_connected : s.afterDeadlineAnswer.connected = s.connected := by
  unfold State.afterDeadlineAnswer; split <;> rfl
@[simp] theorem State.afterDeadlineAnswer_inq : s.afterDeadlineAnswer.inq = s.inq := by
  unfold State.afterDeadlineAnswer; split <;> rfl
@[simp] theorem State.afterDeadlineAnswer_pend : s.afterDeadlineAnswer.pend = s.pend := by
  unfold State.afterDeadlineAnswer; split <;> rfl
@[simp] theorem State.afterDeadlineAnswer_faultRunt : s.afterDeadlineAnswer.faultRunt = s.faultRunt := by
  unfold State.afterDeadlineAnswer; split <;> rfl
@[simp] theorem State.afterDeadlineAnswer_faultOverflow : s.afterDeadlineAnswer.faultOverflow = s.faultOverflow := by
  unfold State.afterDeadlineAnswer; split <;> rfl
@[simp] theorem State.afterDeadlineAnswer_tx : s.afterDeadlineAnswer.tx = s.tx := by
  unfold State.afterDeadlineAnswer; split <;> rfl
@[simp] theorem State.afterDeadlineAnswer_diag : s.afterDeadlineAnswer.diag = s.diag := by
  unfold State.afterDeadlineAnswer; split <;> rfl
@[simp] theorem State.afterDeadlineAnswer_responses : s.afterDeadlineAnswer.responses = s.responses := by
  unfold State.afterDeadlineAnswer; split <;> rfl
@[simp] theorem State.afterDeadlineAnswer_transportCalls : s.afterDeadlineAnswer.transportCalls = s.transportCalls := by
  unfold State.afterDeadlineAnswer; split <;> rfl
@[simp] theorem State.afterDeadlineAnswer_requests : s.afterDeadlineAnswer.requests = s.requests := by
  unfold State.afterDeadlineAnswer; split <;> rfl
@[simp] theorem State.afterDeadlineAnswer_transportAnswers : s.afterDeadlineAnswer.transportAnswers = s.transportAnswers := by
  unfold State.afterDeadlineAnswer; split <;> rfl

end Sys2Proof.Machine
end

