-- ==== Sys2Proof/Laws/Store.lean ====
section
/-! SUPPORT. The operations of the store: the fields they leave alone, and one lemma each for everything they can do. -/

namespace Sys2Proof.Machine

variable (s : State)

/-! ## The fields an operation of the store leaves alone -/

@[simp] theorem State.enqueue_params (p : Packet) : (s.enqueue p).params = s.params := by unfold State.enqueue; split <;> rfl
@[simp] theorem State.enqueue_rxState (p : Packet) : (s.enqueue p).rxState = s.rxState := by unfold State.enqueue; split <;> rfl
@[simp] theorem State.enqueue_rxBuf (p : Packet) : (s.enqueue p).rxBuf = s.rxBuf := by unfold State.enqueue; split <;> rfl
@[simp] theorem State.enqueue_rxLen (p : Packet) : (s.enqueue p).rxLen = s.rxLen := by unfold State.enqueue; split <;> rfl
@[simp] theorem State.enqueue_txSeq (p : Packet) : (s.enqueue p).txSeq = s.txSeq := by unfold State.enqueue; split <;> rfl
@[simp] theorem State.enqueue_connected (p : Packet) : (s.enqueue p).connected = s.connected := by unfold State.enqueue; split <;> rfl
@[simp] theorem State.enqueue_pend (p : Packet) : (s.enqueue p).pend = s.pend := by unfold State.enqueue; split <;> rfl
@[simp] theorem State.enqueue_faultRunt (p : Packet) : (s.enqueue p).faultRunt = s.faultRunt := by unfold State.enqueue; split <;> rfl
@[simp] theorem State.enqueue_tx (p : Packet) : (s.enqueue p).tx = s.tx := by unfold State.enqueue; split <;> rfl
@[simp] theorem State.enqueue_diag (p : Packet) : (s.enqueue p).diag = s.diag := by unfold State.enqueue; split <;> rfl
@[simp] theorem State.enqueue_responses (p : Packet) : (s.enqueue p).responses = s.responses := by unfold State.enqueue; split <;> rfl
@[simp] theorem State.enqueue_transportCalls (p : Packet) : (s.enqueue p).transportCalls = s.transportCalls := by unfold State.enqueue; split <;> rfl
@[simp] theorem State.enqueue_requests (p : Packet) : (s.enqueue p).requests = s.requests := by unfold State.enqueue; split <;> rfl
@[simp] theorem State.enqueue_transportAnswers (p : Packet) : (s.enqueue p).transportAnswers = s.transportAnswers := by unfold State.enqueue; split <;> rfl
@[simp] theorem State.enqueue_deadlineAnswers (p : Packet) : (s.enqueue p).deadlineAnswers = s.deadlineAnswers := by unfold State.enqueue; split <;> rfl
@[simp] theorem State.enqueue_asked (p : Packet) : (s.enqueue p).asked = s.asked := by unfold State.enqueue; split <;> rfl

@[simp] theorem State.drain_params : s.drain.params = s.params := by unfold State.drain; split <;> rfl
@[simp] theorem State.drain_rxState : s.drain.rxState = s.rxState := by unfold State.drain; split <;> rfl
@[simp] theorem State.drain_rxBuf : s.drain.rxBuf = s.rxBuf := by unfold State.drain; split <;> rfl
@[simp] theorem State.drain_rxLen : s.drain.rxLen = s.rxLen := by unfold State.drain; split <;> rfl
@[simp] theorem State.drain_txSeq : s.drain.txSeq = s.txSeq := by unfold State.drain; split <;> rfl
@[simp] theorem State.drain_connected : s.drain.connected = s.connected := by unfold State.drain; split <;> rfl
@[simp] theorem State.drain_faultRunt : s.drain.faultRunt = s.faultRunt := by unfold State.drain; split <;> rfl
@[simp] theorem State.drain_tx : s.drain.tx = s.tx := by unfold State.drain; split <;> rfl
@[simp] theorem State.drain_diag : s.drain.diag = s.diag := by unfold State.drain; split <;> rfl
@[simp] theorem State.drain_responses : s.drain.responses = s.responses := by unfold State.drain; split <;> rfl
@[simp] theorem State.drain_transportCalls : s.drain.transportCalls = s.transportCalls := by unfold State.drain; split <;> rfl
@[simp] theorem State.drain_requests : s.drain.requests = s.requests := by unfold State.drain; split <;> rfl
@[simp] theorem State.drain_transportAnswers : s.drain.transportAnswers = s.transportAnswers := by unfold State.drain; split <;> rfl
@[simp] theorem State.drain_deadlineAnswers : s.drain.deadlineAnswers = s.deadlineAnswers := by unfold State.drain; split <;> rfl
@[simp] theorem State.drain_asked : s.drain.asked = s.asked := by unfold State.drain; split <;> rfl

@[simp] theorem State.afterTake_params (k : Pick) : (s.afterTake k).params = s.params := by simp [State.afterTake]
@[simp] theorem State.afterTake_rxState (k : Pick) : (s.afterTake k).rxState = s.rxState := by simp [State.afterTake]
@[simp] theorem State.afterTake_rxBuf (k : Pick) : (s.afterTake k).rxBuf = s.rxBuf := by simp [State.afterTake]
@[simp] theorem State.afterTake_rxLen (k : Pick) : (s.afterTake k).rxLen = s.rxLen := by simp [State.afterTake]
@[simp] theorem State.afterTake_txSeq (k : Pick) : (s.afterTake k).txSeq = s.txSeq := by simp [State.afterTake]
@[simp] theorem State.afterTake_connected (k : Pick) : (s.afterTake k).connected = s.connected := by simp [State.afterTake]
@[simp] theorem State.afterTake_faultRunt (k : Pick) : (s.afterTake k).faultRunt = s.faultRunt := by simp [State.afterTake]
@[simp] theorem State.afterTake_tx (k : Pick) : (s.afterTake k).tx = s.tx := by simp [State.afterTake]
@[simp] theorem State.afterTake_diag (k : Pick) : (s.afterTake k).diag = s.diag := by simp [State.afterTake]
@[simp] theorem State.afterTake_responses (k : Pick) : (s.afterTake k).responses = s.responses := by simp [State.afterTake]
@[simp] theorem State.afterTake_transportCalls (k : Pick) : (s.afterTake k).transportCalls = s.transportCalls := by simp [State.afterTake]
@[simp] theorem State.afterTake_requests (k : Pick) : (s.afterTake k).requests = s.requests := by simp [State.afterTake]
@[simp] theorem State.afterTake_transportAnswers (k : Pick) : (s.afterTake k).transportAnswers = s.transportAnswers := by simp [State.afterTake]
@[simp] theorem State.afterTake_deadlineAnswers (k : Pick) : (s.afterTake k).deadlineAnswers = s.deadlineAnswers := by simp [State.afterTake]
@[simp] theorem State.afterTake_asked (k : Pick) : (s.afterTake k).asked = s.asked := by simp [State.afterTake]

@[simp] theorem State.take_params (k : Pick) : (s.take k).params = s.params := by simp [State.take]
@[simp] theorem State.take_rxState (k : Pick) : (s.take k).rxState = s.rxState := by simp [State.take]
@[simp] theorem State.take_rxBuf (k : Pick) : (s.take k).rxBuf = s.rxBuf := by simp [State.take]
@[simp] theorem State.take_rxLen (k : Pick) : (s.take k).rxLen = s.rxLen := by simp [State.take]
@[simp] theorem State.take_txSeq (k : Pick) : (s.take k).txSeq = s.txSeq := by simp [State.take]
@[simp] theorem State.take_connected (k : Pick) : (s.take k).connected = s.connected := by simp [State.take]
@[simp] theorem State.take_faultRunt (k : Pick) : (s.take k).faultRunt = s.faultRunt := by simp [State.take]
@[simp] theorem State.take_tx (k : Pick) : (s.take k).tx = s.tx := by simp [State.take]
@[simp] theorem State.take_diag (k : Pick) : (s.take k).diag = s.diag := by simp [State.take]
@[simp] theorem State.take_transportCalls (k : Pick) : (s.take k).transportCalls = s.transportCalls := by simp [State.take]
@[simp] theorem State.take_requests (k : Pick) : (s.take k).requests = s.requests := by simp [State.take]
@[simp] theorem State.take_transportAnswers (k : Pick) : (s.take k).transportAnswers = s.transportAnswers := by simp [State.take]
@[simp] theorem State.take_deadlineAnswers (k : Pick) : (s.take k).deadlineAnswers = s.deadlineAnswers := by simp [State.take]
@[simp] theorem State.take_asked (k : Pick) : (s.take k).asked = s.asked := by simp [State.take]

@[simp] theorem State.poll_params (k : Pick) (i : Instr) : (s.poll k i).params = s.params := by unfold State.poll; split <;> [skip; split] <;> simp [State.fail]
@[simp] theorem State.poll_rxState (k : Pick) (i : Instr) : (s.poll k i).rxState = s.rxState := by unfold State.poll; split <;> [skip; split] <;> simp [State.fail]
@[simp] theorem State.poll_rxBuf (k : Pick) (i : Instr) : (s.poll k i).rxBuf = s.rxBuf := by unfold State.poll; split <;> [skip; split] <;> simp [State.fail]
@[simp] theorem State.poll_rxLen (k : Pick) (i : Instr) : (s.poll k i).rxLen = s.rxLen := by unfold State.poll; split <;> [skip; split] <;> simp [State.fail]
@[simp] theorem State.poll_txSeq (k : Pick) (i : Instr) : (s.poll k i).txSeq = s.txSeq := by unfold State.poll; split <;> [skip; split] <;> simp [State.fail]
@[simp] theorem State.poll_connected (k : Pick) (i : Instr) : (s.poll k i).connected = s.connected := by unfold State.poll; split <;> [skip; split] <;> simp [State.fail]
@[simp] theorem State.poll_faultRunt (k : Pick) (i : Instr) : (s.poll k i).faultRunt = s.faultRunt := by unfold State.poll; split <;> [skip; split] <;> simp [State.fail]
@[simp] theorem State.poll_tx (k : Pick) (i : Instr) : (s.poll k i).tx = s.tx := by unfold State.poll; split <;> [skip; split] <;> simp [State.fail]
@[simp] theorem State.poll_diag (k : Pick) (i : Instr) : (s.poll k i).diag = s.diag := by unfold State.poll; split <;> [skip; split] <;> simp [State.fail]
@[simp] theorem State.poll_transportCalls (k : Pick) (i : Instr) : (s.poll k i).transportCalls = s.transportCalls := by unfold State.poll; split <;> [skip; split] <;> simp [State.fail]
@[simp] theorem State.poll_transportAnswers (k : Pick) (i : Instr) : (s.poll k i).transportAnswers = s.transportAnswers := by unfold State.poll; split <;> [skip; split] <;> simp [State.fail]

/-! ## What the operations can do -/

/-- `enqueue` either appends with room, or marks the overflow without (R111, R120). -/
theorem State.enqueue_cases (p : Packet) :
    (s.inqHasRoom = true ∧ s.enqueue p = s.setInq (s.inq ++ [p])) ∨
    (s.inqHasRoom = false ∧ s.enqueue p = s.raiseOverflow) := by
  unfold State.enqueue
  cases h : s.inqHasRoom <;> simp

/-- The coming steps play no part in `enqueue`. -/
theorem State.enqueue_setRequests (p : Packet) (r : List Instr) :
    (s.setRequests r).enqueue p = (s.enqueue p).setRequests r := by
  have h : (s.setRequests r).inqHasRoom = s.inqHasRoom := rfl
  unfold State.enqueue
  rw [h]
  split <;> rfl

/-- There is room exactly where a finite depth is not reached. -/
theorem State.inqHasRoom_iff :
    s.inqHasRoom = true ↔ ∀ d, s.params.inqDepth = some d → s.inq.length < d := by
  unfold State.inqHasRoom
  cases h : s.params.inqDepth <;> simp

/-- The overflow of `drain` is that of a finite depth exceeded. -/
theorem State.drainOverflows_iff :
    s.drainOverflows = true ↔ ∃ d, s.params.pendDepth = some d ∧ d < s.pend.length + s.inq.length := by
  unfold State.drainOverflows
  cases h : s.params.pendDepth <;> simp

/-- `drain` moves everything, or what fits and marks the overflow (R112, R120). -/
theorem State.drain_cases :
    (s.drainOverflows = false ∧ s.drain = (s.setPend (s.pend ++ s.inq)).setInq []) ∨
    (∃ d, s.params.pendDepth = some d ∧ d < s.pend.length + s.inq.length ∧
      s.drain = ((s.setPend (s.pend ++ s.inq.take (d - s.pend.length))).setInq
        (s.inq.drop (d - s.pend.length))).raiseOverflow) := by
  cases h : s.drainOverflows
  · exact .inl ⟨rfl, by simp [State.drain, h]⟩
  · obtain ⟨d, hd, hlt⟩ := s.drainOverflows_iff.mp h
    exact .inr ⟨d, hd, hlt, by simp [State.drain, h, State.pendRoom, hd]⟩

/-- `drain` loses no packet and changes no order. -/
theorem State.drain_append : s.drain.pend ++ s.drain.inq = s.pend ++ s.inq := by
  obtain ⟨-, h⟩ | ⟨d, -, -, h⟩ := s.drain_cases <;> rw [h] <;> simp

/-- Every packet pending after a `drain` was in PEND or INQ before. -/
theorem State.mem_drain_pend {p : Packet} (h : p ∈ s.drain.pend) : p ∈ s.inq ++ s.pend := by
  have := s.drain_append ▸ List.mem_append_left s.drain.inq h
  simpa [or_comm] using this

/-- Every packet queued after a `drain` was queued before. -/
theorem State.mem_drain_inq {p : Packet} (h : p ∈ s.drain.inq) : p ∈ s.inq := by
  obtain ⟨-, e⟩ | ⟨d, -, -, e⟩ := s.drain_cases <;> rw [e] at h <;> simp at h
  exact List.mem_of_mem_drop h

/-- A take finds the first accepted packet and removes it, keeping the order of the rest (R114 to R116). -/
theorem State.take_first {k : Pick} {before after : List Packet} {p : Packet}
    (hq : s.drain.pend = before ++ p :: after) (hb : ∀ q ∈ before, k.accepts q = false) (hp : k.accepts p = true) :
    s.found k = some p ∧ s.afterTake k = s.drain.setPend (before ++ after) := by
  constructor
  · simp only [State.found, hq, List.find?_append]
    rw [List.find?_eq_none.mpr (by simpa using hb)]
    simp [hp]
  · simp only [State.afterTake, hq]
    rw [List.eraseP_append_right _ (by simpa using hb)]
    simp [hp]

/-- A take that finds nothing leaves what the drain left (R114). -/
theorem State.take_none {k : Pick} (h : ∀ q ∈ s.drain.pend, k.accepts q = false) :
    s.found k = none ∧ s.afterTake k = s.drain := by
  constructor
  · simpa [State.found] using h
  · simp only [State.afterTake]
    rw [List.eraseP_of_forall_not (by simpa using h)]
    rfl

/-- A take either finds a packet that was stored, or answers None; what stays was stored before. -/
theorem State.take_cases (k : Pick) :
    (∃ p, s.found k = some p ∧ p ∈ s.drain.pend ∧ s.take k = (s.afterTake k).respond (.packet p)) ∨
    (s.found k = none ∧ s.afterTake k = s.drain ∧ s.take k = s.drain.respond .noPacket) := by
  cases h : s.found k with
  | some p => exact .inl ⟨p, rfl, List.mem_of_find?_eq_some h, by simp [State.take, State.takeResponse, h]⟩
  | none =>
    have hn := s.take_none (k := k) (by simpa [State.found] using h)
    exact .inr ⟨rfl, hn.2, by simp [State.take, State.takeResponse, h, hn.2]⟩

@[simp] theorem State.afterTake_pend (k : Pick) : (s.afterTake k).pend = s.drain.pend.eraseP k.accepts := rfl

@[simp] theorem State.afterTake_inq (k : Pick) : (s.afterTake k).inq = s.drain.inq := rfl

@[simp] theorem State.afterTake_faultOverflow (k : Pick) : (s.afterTake k).faultOverflow = s.drain.faultOverflow := rfl

@[simp] theorem State.take_pend (k : Pick) : (s.take k).pend = s.drain.pend.eraseP k.accepts := rfl

@[simp] theorem State.take_inq (k : Pick) : (s.take k).inq = s.drain.inq := rfl

@[simp] theorem State.take_faultOverflow (k : Pick) : (s.take k).faultOverflow = s.drain.faultOverflow := rfl

@[simp] theorem State.take_responses (k : Pick) : (s.take k).responses = s.responses ++ [s.takeResponse k] := by
  simp [State.take]

/-- One poll: the packet is returned, or the deadline has passed, or the call polls again later (R118). -/
theorem State.poll_cases (k : Pick) (again : Instr) :
    (∃ p, s.found k = some p ∧ s.poll k again = (s.afterTake k).respond (.packet p)) ∨
    (s.found k = none ∧ s.deadlineAnswer = none ∧ s.poll k again = s.drain.afterDeadlineAnswer.fail .timeout) ∨
    (∃ n, s.found k = none ∧ s.deadlineAnswer = some n ∧
      s.poll k again = s.drain.afterDeadlineAnswer.setRequests (insertRequest n again s.requests)) := by
  cases h : s.found k with
  | some p => exact .inl ⟨p, rfl, by simp [State.poll, h]⟩
  | none =>
    have hn := (s.take_none (k := k) (by simpa [State.found] using h)).2
    cases hd : s.deadlineAnswer with
    | none => exact .inr (.inl ⟨rfl, rfl, by simp [State.poll, h, hd, hn]⟩)
    | some n => exact .inr (.inr ⟨n, rfl, rfl, by simp [State.poll, h, hd, hn]⟩)

end Sys2Proof.Machine
end

