-- ==== Sys2Proof/Laws/Router.lean ====
section
/-! SUPPORT. PacketRouter: the fields routing leaves alone, the classification of R93 in the words of the rule, and one lemma each for
everything the router's operations can do. -/

namespace Sys2Proof.Machine

variable (s : State)

/-! ## The fields routing leaves alone -/

@[simp] theorem State.runt_params (f : Bytes) : (s.runt f).params = s.params := by rfl
@[simp] theorem State.runt_rxState (f : Bytes) : (s.runt f).rxState = s.rxState := by rfl
@[simp] theorem State.runt_rxBuf (f : Bytes) : (s.runt f).rxBuf = s.rxBuf := by rfl
@[simp] theorem State.runt_rxLen (f : Bytes) : (s.runt f).rxLen = s.rxLen := by rfl
@[simp] theorem State.runt_txSeq (f : Bytes) : (s.runt f).txSeq = s.txSeq := by rfl
@[simp] theorem State.runt_connected (f : Bytes) : (s.runt f).connected = s.connected := by rfl
@[simp] theorem State.runt_inq (f : Bytes) : (s.runt f).inq = s.inq := by rfl
@[simp] theorem State.runt_pend (f : Bytes) : (s.runt f).pend = s.pend := by rfl
@[simp] theorem State.runt_faultOverflow (f : Bytes) : (s.runt f).faultOverflow = s.faultOverflow := by rfl
@[simp] theorem State.runt_tx (f : Bytes) : (s.runt f).tx = s.tx := by rfl
@[simp] theorem State.runt_responses (f : Bytes) : (s.runt f).responses = s.responses := by rfl
@[simp] theorem State.runt_transportCalls (f : Bytes) : (s.runt f).transportCalls = s.transportCalls := by rfl
@[simp] theorem State.runt_requests (f : Bytes) : (s.runt f).requests = s.requests := by rfl
@[simp] theorem State.runt_transportAnswers (f : Bytes) : (s.runt f).transportAnswers = s.transportAnswers := by rfl
@[simp] theorem State.runt_deadlineAnswers (f : Bytes) : (s.runt f).deadlineAnswers = s.deadlineAnswers := by rfl
@[simp] theorem State.runt_asked (f : Bytes) : (s.runt f).asked = s.asked := by rfl

@[simp] theorem State.boot_params (p : Packet) : (s.boot p).params = s.params := by rfl
@[simp] theorem State.boot_rxState (p : Packet) : (s.boot p).rxState = s.rxState := by rfl
@[simp] theorem State.boot_rxBuf (p : Packet) : (s.boot p).rxBuf = s.rxBuf := by rfl
@[simp] theorem State.boot_rxLen (p : Packet) : (s.boot p).rxLen = s.rxLen := by rfl
@[simp] theorem State.boot_txSeq (p : Packet) : (s.boot p).txSeq = s.txSeq := by rfl
@[simp] theorem State.boot_connected (p : Packet) : (s.boot p).connected = s.connected := by rfl
@[simp] theorem State.boot_inq (p : Packet) : (s.boot p).inq = s.inq := by rfl
@[simp] theorem State.boot_pend (p : Packet) : (s.boot p).pend = s.pend := by rfl
@[simp] theorem State.boot_faultRunt (p : Packet) : (s.boot p).faultRunt = s.faultRunt := by rfl
@[simp] theorem State.boot_faultOverflow (p : Packet) : (s.boot p).faultOverflow = s.faultOverflow := by rfl
@[simp] theorem State.boot_tx (p : Packet) : (s.boot p).tx = s.tx := by rfl
@[simp] theorem State.boot_responses (p : Packet) : (s.boot p).responses = s.responses := by rfl
@[simp] theorem State.boot_transportCalls (p : Packet) : (s.boot p).transportCalls = s.transportCalls := by rfl
@[simp] theorem State.boot_requests (p : Packet) : (s.boot p).requests = s.requests := by rfl
@[simp] theorem State.boot_transportAnswers (p : Packet) : (s.boot p).transportAnswers = s.transportAnswers := by rfl
@[simp] theorem State.boot_deadlineAnswers (p : Packet) : (s.boot p).deadlineAnswers = s.deadlineAnswers := by rfl
@[simp] theorem State.boot_asked (p : Packet) : (s.boot p).asked = s.asked := by rfl

@[simp] theorem State.log_params (p : Packet) : (s.log p).params = s.params := by rfl
@[simp] theorem State.log_rxState (p : Packet) : (s.log p).rxState = s.rxState := by rfl
@[simp] theorem State.log_rxBuf (p : Packet) : (s.log p).rxBuf = s.rxBuf := by rfl
@[simp] theorem State.log_rxLen (p : Packet) : (s.log p).rxLen = s.rxLen := by rfl
@[simp] theorem State.log_txSeq (p : Packet) : (s.log p).txSeq = s.txSeq := by rfl
@[simp] theorem State.log_connected (p : Packet) : (s.log p).connected = s.connected := by rfl
@[simp] theorem State.log_inq (p : Packet) : (s.log p).inq = s.inq := by rfl
@[simp] theorem State.log_pend (p : Packet) : (s.log p).pend = s.pend := by rfl
@[simp] theorem State.log_faultRunt (p : Packet) : (s.log p).faultRunt = s.faultRunt := by rfl
@[simp] theorem State.log_faultOverflow (p : Packet) : (s.log p).faultOverflow = s.faultOverflow := by rfl
@[simp] theorem State.log_tx (p : Packet) : (s.log p).tx = s.tx := by rfl
@[simp] theorem State.log_responses (p : Packet) : (s.log p).responses = s.responses := by rfl
@[simp] theorem State.log_transportCalls (p : Packet) : (s.log p).transportCalls = s.transportCalls := by rfl
@[simp] theorem State.log_requests (p : Packet) : (s.log p).requests = s.requests := by rfl
@[simp] theorem State.log_transportAnswers (p : Packet) : (s.log p).transportAnswers = s.transportAnswers := by rfl
@[simp] theorem State.log_deadlineAnswers (p : Packet) : (s.log p).deadlineAnswers = s.deadlineAnswers := by rfl
@[simp] theorem State.log_asked (p : Packet) : (s.log p).asked = s.asked := by rfl

@[simp] theorem State.classified_params (p : Packet) : (s.classified p).params = s.params := by unfold State.classified; split <;> simp
@[simp] theorem State.classified_rxState (p : Packet) : (s.classified p).rxState = s.rxState := by unfold State.classified; split <;> simp
@[simp] theorem State.classified_rxBuf (p : Packet) : (s.classified p).rxBuf = s.rxBuf := by unfold State.classified; split <;> simp
@[simp] theorem State.classified_rxLen (p : Packet) : (s.classified p).rxLen = s.rxLen := by unfold State.classified; split <;> simp
@[simp] theorem State.classified_txSeq (p : Packet) : (s.classified p).txSeq = s.txSeq := by unfold State.classified; split <;> simp
@[simp] theorem State.classified_connected (p : Packet) : (s.classified p).connected = s.connected := by unfold State.classified; split <;> simp
@[simp] theorem State.classified_pend (p : Packet) : (s.classified p).pend = s.pend := by unfold State.classified; split <;> simp
@[simp] theorem State.classified_faultRunt (p : Packet) : (s.classified p).faultRunt = s.faultRunt := by unfold State.classified; split <;> simp
@[simp] theorem State.classified_tx (p : Packet) : (s.classified p).tx = s.tx := by unfold State.classified; split <;> simp
@[simp] theorem State.classified_responses (p : Packet) : (s.classified p).responses = s.responses := by unfold State.classified; split <;> simp
@[simp] theorem State.classified_transportCalls (p : Packet) : (s.classified p).transportCalls = s.transportCalls := by unfold State.classified; split <;> simp
@[simp] theorem State.classified_requests (p : Packet) : (s.classified p).requests = s.requests := by unfold State.classified; split <;> simp
@[simp] theorem State.classified_transportAnswers (p : Packet) : (s.classified p).transportAnswers = s.transportAnswers := by unfold State.classified; split <;> simp
@[simp] theorem State.classified_deadlineAnswers (p : Packet) : (s.classified p).deadlineAnswers = s.deadlineAnswers := by unfold State.classified; split <;> simp
@[simp] theorem State.classified_asked (p : Packet) : (s.classified p).asked = s.asked := by unfold State.classified; split <;> simp

@[simp] theorem State.route_params (f : Bytes) : (s.route f).params = s.params := by unfold State.route; split <;> simp
@[simp] theorem State.route_rxState (f : Bytes) : (s.route f).rxState = s.rxState := by unfold State.route; split <;> simp
@[simp] theorem State.route_rxBuf (f : Bytes) : (s.route f).rxBuf = s.rxBuf := by unfold State.route; split <;> simp
@[simp] theorem State.route_rxLen (f : Bytes) : (s.route f).rxLen = s.rxLen := by unfold State.route; split <;> simp
@[simp] theorem State.route_txSeq (f : Bytes) : (s.route f).txSeq = s.txSeq := by unfold State.route; split <;> simp
@[simp] theorem State.route_connected (f : Bytes) : (s.route f).connected = s.connected := by unfold State.route; split <;> simp
@[simp] theorem State.route_pend (f : Bytes) : (s.route f).pend = s.pend := by unfold State.route; split <;> simp
@[simp] theorem State.route_tx (f : Bytes) : (s.route f).tx = s.tx := by unfold State.route; split <;> simp
@[simp] theorem State.route_responses (f : Bytes) : (s.route f).responses = s.responses := by unfold State.route; split <;> simp
@[simp] theorem State.route_transportCalls (f : Bytes) : (s.route f).transportCalls = s.transportCalls := by unfold State.route; split <;> simp
@[simp] theorem State.route_requests (f : Bytes) : (s.route f).requests = s.requests := by unfold State.route; split <;> simp
@[simp] theorem State.route_transportAnswers (f : Bytes) : (s.route f).transportAnswers = s.transportAnswers := by unfold State.route; split <;> simp
@[simp] theorem State.route_deadlineAnswers (f : Bytes) : (s.route f).deadlineAnswers = s.deadlineAnswers := by unfold State.route; split <;> simp
@[simp] theorem State.route_asked (f : Bytes) : (s.route f).asked = s.asked := by unfold State.route; split <;> simp

/-! ## Classification -/

/-- `contains(t, s)` is "there is an index i with t[i..i+|s|] = s" (spec/00_scope.md R7). -/
theorem contains_iff (t u : Bytes) : contains t u = true ↔ u <:+: t := by
  induction t with
  | nil => cases u <;> simp [contains]
  | cons b t ih => simp [contains, ih, List.infix_cons_iff]

/-- A text holds a banner where some member of BOOT_BANNERS is in it (R93). -/
theorem hasBanner_iff (banners : Banners) (t : Bytes) :
    hasBanner banners t = true ↔ ∃ b ∈ banners.all, (b.first :: b.rest) <:+: t := by
  simp [hasBanner, contains_iff, Banner.bytes]

/-- The empty text holds no banner, "since every banner is non-empty" (R93, consequence c). -/
theorem hasBanner_nil (banners : Banners) : hasBanner banners [] = false := by
  simp [hasBanner, contains, Banner.bytes]

/-- A packet of another command is always stored (R93, consequence a). -/
theorem classify_of_not_diagnostic {c : Params} {p : Packet} (h : p.commandId ≠ c.diagnosticCmd) :
    classify c p = .store := by
  simp [classify, h]

/-- The first outcome, in the words of R93. -/
theorem classify_boot_iff (c : Params) (p : Packet) :
    classify c p = .boot ↔
      p.commandId = c.diagnosticCmd ∧ ∃ b ∈ c.bootBanners.all, (b.first :: b.rest) <:+: textOf c.textRule p.payload := by
  rw [← hasBanner_iff]
  unfold classify
  split
  · simpa
  · split <;> simp_all

/-- The first byte of a payload is the log marker. -/
theorem head_logMarker_iff (x : Bytes) : x.head? = some logMarker ↔ ∃ rest, x = 0x02#8 :: rest := by
  cases x <;> simp [logMarker]

/-- The second outcome, in the words of R93. -/
theorem classify_log_iff (c : Params) (p : Packet) :
    classify c p = .log ↔
      classify c p ≠ .boot ∧ p.commandId = c.diagnosticCmd ∧ ∃ rest, p.payload = 0x02#8 :: rest := by
  rw [← head_logMarker_iff]
  unfold classify
  split
  · simp
  · split <;> simp_all

/-- The third outcome: neither of the others. -/
theorem classify_store_iff (c : Params) (p : Packet) :
    classify c p = .store ↔ classify c p ≠ .boot ∧ classify c p ≠ .log := by
  cases classify c p <;> simp

/-! ## What the operations can do -/

/-- A decoded packet takes exactly one of the three outcomes (R93). -/
theorem State.classified_cases (p : Packet) :
    (classify s.params p = .boot ∧ s.classified p = s.boot p) ∨
    (classify s.params p = .log ∧ s.classified p = s.log p) ∨
    (classify s.params p = .store ∧ s.classified p = s.enqueue p) := by
  cases h : classify s.params p <;> simp [State.classified, h]

/-- The coming steps play no part in routing. -/
theorem State.classified_setRequests (p : Packet) (r : List Instr) :
    (s.setRequests r).classified p = (s.classified p).setRequests r := by
  unfold State.classified
  rw [s.setRequests_params]
  cases classify s.params p
  · rfl
  · rfl
  · exact s.enqueue_setRequests p r

/-- The coming steps play no part in routing. -/
theorem State.route_setRequests (raw : Bytes) (r : List Instr) :
    (s.setRequests r).route raw = (s.route raw).setRequests r := by
  unfold State.route
  split
  · rfl
  · exact s.classified_setRequests _ r

/-- A raw frame is a runt or is decoded and classified (R90). -/
theorem State.route_cases (raw : Bytes) :
    (raw.length < 7 ∧ s.route raw = s.runt raw) ∨ (7 ≤ raw.length ∧ s.route raw = s.classified (decodePacket raw)) := by
  rcases Nat.lt_or_ge raw.length 7 with h | h
  · exact .inl ⟨h, by simp [State.route, h]⟩
  · exact .inr ⟨h, by simp [State.route, Nat.not_lt.mpr h]⟩

/-- A branch row answers a next state exactly where it is selected. -/
theorem branch_eq_next {c : Bool} {t u : State} : branch c t = .next u ↔ c = true ∧ t = u := by
  cases c <;> simp [branch]

/-- A branch row is stuck exactly where it is not selected. -/
theorem branch_eq_noStep {c : Bool} {t : State} : branch c t = .fault .noStep ↔ c = false := by
  cases c <;> simp [branch]

end Sys2Proof.Machine
end

