-- ==== Sys2Proof/Laws/Decoder.lean ====
section
/-! SUPPORT. FrameDecoder: the fields reception leaves alone, and one lemma each for everything its operations can do. -/

namespace Sys2Proof.Machine

variable (s : State)

/-! ## The fields reception leaves alone -/

@[simp] theorem State.resetDecoder_params : s.resetDecoder.params = s.params := by rfl
@[simp] theorem State.resetDecoder_txSeq : s.resetDecoder.txSeq = s.txSeq := by rfl
@[simp] theorem State.resetDecoder_connected : s.resetDecoder.connected = s.connected := by rfl
@[simp] theorem State.resetDecoder_inq : s.resetDecoder.inq = s.inq := by rfl
@[simp] theorem State.resetDecoder_pend : s.resetDecoder.pend = s.pend := by rfl
@[simp] theorem State.resetDecoder_faultRunt : s.resetDecoder.faultRunt = s.faultRunt := by rfl
@[simp] theorem State.resetDecoder_faultOverflow : s.resetDecoder.faultOverflow = s.faultOverflow := by rfl
@[simp] theorem State.resetDecoder_tx : s.resetDecoder.tx = s.tx := by rfl
@[simp] theorem State.resetDecoder_diag : s.resetDecoder.diag = s.diag := by rfl
@[simp] theorem State.resetDecoder_responses : s.resetDecoder.responses = s.responses := by rfl
@[simp] theorem State.resetDecoder_transportCalls : s.resetDecoder.transportCalls = s.transportCalls := by rfl
@[simp] theorem State.resetDecoder_requests : s.resetDecoder.requests = s.requests := by rfl
@[simp] theorem State.resetDecoder_transportAnswers : s.resetDecoder.transportAnswers = s.transportAnswers := by rfl
@[simp] theorem State.resetDecoder_deadlineAnswers : s.resetDecoder.deadlineAnswers = s.deadlineAnswers := by rfl
@[simp] theorem State.resetDecoder_asked : s.resetDecoder.asked = s.asked := by rfl

@[simp] theorem State.acceptMarker0_params : s.acceptMarker0.params = s.params := by rfl
@[simp] theorem State.acceptMarker0_rxBuf : s.acceptMarker0.rxBuf = s.rxBuf := by rfl
@[simp] theorem State.acceptMarker0_rxLen : s.acceptMarker0.rxLen = s.rxLen := by rfl
@[simp] theorem State.acceptMarker0_txSeq : s.acceptMarker0.txSeq = s.txSeq := by rfl
@[simp] theorem State.acceptMarker0_connected : s.acceptMarker0.connected = s.connected := by rfl
@[simp] theorem State.acceptMarker0_inq : s.acceptMarker0.inq = s.inq := by rfl
@[simp] theorem State.acceptMarker0_pend : s.acceptMarker0.pend = s.pend := by rfl
@[simp] theorem State.acceptMarker0_faultRunt : s.acceptMarker0.faultRunt = s.faultRunt := by rfl
@[simp] theorem State.acceptMarker0_faultOverflow : s.acceptMarker0.faultOverflow = s.faultOverflow := by rfl
@[simp] theorem State.acceptMarker0_tx : s.acceptMarker0.tx = s.tx := by rfl
@[simp] theorem State.acceptMarker0_diag : s.acceptMarker0.diag = s.diag := by rfl
@[simp] theorem State.acceptMarker0_responses : s.acceptMarker0.responses = s.responses := by rfl
@[simp] theorem State.acceptMarker0_transportCalls : s.acceptMarker0.transportCalls = s.transportCalls := by rfl
@[simp] theorem State.acceptMarker0_requests : s.acceptMarker0.requests = s.requests := by rfl
@[simp] theorem State.acceptMarker0_transportAnswers : s.acceptMarker0.transportAnswers = s.transportAnswers := by rfl
@[simp] theorem State.acceptMarker0_deadlineAnswers : s.acceptMarker0.deadlineAnswers = s.deadlineAnswers := by rfl
@[simp] theorem State.acceptMarker0_asked : s.acceptMarker0.asked = s.asked := by rfl

@[simp] theorem State.acceptMarker1_params : s.acceptMarker1.params = s.params := by rfl
@[simp] theorem State.acceptMarker1_txSeq : s.acceptMarker1.txSeq = s.txSeq := by rfl
@[simp] theorem State.acceptMarker1_connected : s.acceptMarker1.connected = s.connected := by rfl
@[simp] theorem State.acceptMarker1_inq : s.acceptMarker1.inq = s.inq := by rfl
@[simp] theorem State.acceptMarker1_pend : s.acceptMarker1.pend = s.pend := by rfl
@[simp] theorem State.acceptMarker1_faultRunt : s.acceptMarker1.faultRunt = s.faultRunt := by rfl
@[simp] theorem State.acceptMarker1_faultOverflow : s.acceptMarker1.faultOverflow = s.faultOverflow := by rfl
@[simp] theorem State.acceptMarker1_tx : s.acceptMarker1.tx = s.tx := by rfl
@[simp] theorem State.acceptMarker1_diag : s.acceptMarker1.diag = s.diag := by rfl
@[simp] theorem State.acceptMarker1_responses : s.acceptMarker1.responses = s.responses := by rfl
@[simp] theorem State.acceptMarker1_transportCalls : s.acceptMarker1.transportCalls = s.transportCalls := by rfl
@[simp] theorem State.acceptMarker1_requests : s.acceptMarker1.requests = s.requests := by rfl
@[simp] theorem State.acceptMarker1_transportAnswers : s.acceptMarker1.transportAnswers = s.transportAnswers := by rfl
@[simp] theorem State.acceptMarker1_deadlineAnswers : s.acceptMarker1.deadlineAnswers = s.deadlineAnswers := by rfl
@[simp] theorem State.acceptMarker1_asked : s.acceptMarker1.asked = s.asked := by rfl

@[simp] theorem State.reportNoise_params (b : Byte) : (s.reportNoise b).params = s.params := by rfl
@[simp] theorem State.reportNoise_rxBuf (b : Byte) : (s.reportNoise b).rxBuf = s.rxBuf := by rfl
@[simp] theorem State.reportNoise_rxLen (b : Byte) : (s.reportNoise b).rxLen = s.rxLen := by rfl
@[simp] theorem State.reportNoise_txSeq (b : Byte) : (s.reportNoise b).txSeq = s.txSeq := by rfl
@[simp] theorem State.reportNoise_connected (b : Byte) : (s.reportNoise b).connected = s.connected := by rfl
@[simp] theorem State.reportNoise_inq (b : Byte) : (s.reportNoise b).inq = s.inq := by rfl
@[simp] theorem State.reportNoise_pend (b : Byte) : (s.reportNoise b).pend = s.pend := by rfl
@[simp] theorem State.reportNoise_faultRunt (b : Byte) : (s.reportNoise b).faultRunt = s.faultRunt := by rfl
@[simp] theorem State.reportNoise_faultOverflow (b : Byte) : (s.reportNoise b).faultOverflow = s.faultOverflow := by rfl
@[simp] theorem State.reportNoise_tx (b : Byte) : (s.reportNoise b).tx = s.tx := by rfl
@[simp] theorem State.reportNoise_responses (b : Byte) : (s.reportNoise b).responses = s.responses := by rfl
@[simp] theorem State.reportNoise_transportCalls (b : Byte) : (s.reportNoise b).transportCalls = s.transportCalls := by rfl
@[simp] theorem State.reportNoise_requests (b : Byte) : (s.reportNoise b).requests = s.requests := by rfl
@[simp] theorem State.reportNoise_transportAnswers (b : Byte) : (s.reportNoise b).transportAnswers = s.transportAnswers := by rfl
@[simp] theorem State.reportNoise_deadlineAnswers (b : Byte) : (s.reportNoise b).deadlineAnswers = s.deadlineAnswers := by rfl
@[simp] theorem State.reportNoise_asked (b : Byte) : (s.reportNoise b).asked = s.asked := by rfl

@[simp] theorem State.completeFrame_params (b : Byte) : (s.completeFrame b).params = s.params := by simp [State.completeFrame]
@[simp] theorem State.completeFrame_txSeq (b : Byte) : (s.completeFrame b).txSeq = s.txSeq := by simp [State.completeFrame]
@[simp] theorem State.completeFrame_connected (b : Byte) : (s.completeFrame b).connected = s.connected := by simp [State.completeFrame]
@[simp] theorem State.completeFrame_pend (b : Byte) : (s.completeFrame b).pend = s.pend := by simp [State.completeFrame]
@[simp] theorem State.completeFrame_tx (b : Byte) : (s.completeFrame b).tx = s.tx := by simp [State.completeFrame]
@[simp] theorem State.completeFrame_responses (b : Byte) : (s.completeFrame b).responses = s.responses := by simp [State.completeFrame]
@[simp] theorem State.completeFrame_transportCalls (b : Byte) : (s.completeFrame b).transportCalls = s.transportCalls := by simp [State.completeFrame]
@[simp] theorem State.completeFrame_requests (b : Byte) : (s.completeFrame b).requests = s.requests := by simp [State.completeFrame]
@[simp] theorem State.completeFrame_transportAnswers (b : Byte) : (s.completeFrame b).transportAnswers = s.transportAnswers := by simp [State.completeFrame]
@[simp] theorem State.completeFrame_deadlineAnswers (b : Byte) : (s.completeFrame b).deadlineAnswers = s.deadlineAnswers := by simp [State.completeFrame]
@[simp] theorem State.completeFrame_asked (b : Byte) : (s.completeFrame b).asked = s.asked := by simp [State.completeFrame]

@[simp] theorem State.collect_params (b : Byte) : (s.collect b).params = s.params := by unfold State.collect; split <;> simp
@[simp] theorem State.collect_txSeq (b : Byte) : (s.collect b).txSeq = s.txSeq := by unfold State.collect; split <;> simp
@[simp] theorem State.collect_connected (b : Byte) : (s.collect b).connected = s.connected := by unfold State.collect; split <;> simp
@[simp] theorem State.collect_pend (b : Byte) : (s.collect b).pend = s.pend := by unfold State.collect; split <;> simp
@[simp] theorem State.collect_tx (b : Byte) : (s.collect b).tx = s.tx := by unfold State.collect; split <;> simp
@[simp] theorem State.collect_responses (b : Byte) : (s.collect b).responses = s.responses := by unfold State.collect; split <;> simp
@[simp] theorem State.collect_transportCalls (b : Byte) : (s.collect b).transportCalls = s.transportCalls := by unfold State.collect; split <;> simp
@[simp] theorem State.collect_requests (b : Byte) : (s.collect b).requests = s.requests := by unfold State.collect; split <;> simp
@[simp] theorem State.collect_transportAnswers (b : Byte) : (s.collect b).transportAnswers = s.transportAnswers := by unfold State.collect; split <;> simp
@[simp] theorem State.collect_deadlineAnswers (b : Byte) : (s.collect b).deadlineAnswers = s.deadlineAnswers := by unfold State.collect; split <;> simp
@[simp] theorem State.collect_asked (b : Byte) : (s.collect b).asked = s.asked := by unfold State.collect; split <;> simp

@[simp] theorem State.rxByte_params (b : Byte) : (s.rxByte b).params = s.params := by unfold State.rxByte; split <;> simp
@[simp] theorem State.rxByte_txSeq (b : Byte) : (s.rxByte b).txSeq = s.txSeq := by unfold State.rxByte; split <;> simp
@[simp] theorem State.rxByte_connected (b : Byte) : (s.rxByte b).connected = s.connected := by unfold State.rxByte; split <;> simp
@[simp] theorem State.rxByte_pend (b : Byte) : (s.rxByte b).pend = s.pend := by unfold State.rxByte; split <;> simp
@[simp] theorem State.rxByte_tx (b : Byte) : (s.rxByte b).tx = s.tx := by unfold State.rxByte; split <;> simp
@[simp] theorem State.rxByte_responses (b : Byte) : (s.rxByte b).responses = s.responses := by unfold State.rxByte; split <;> simp
@[simp] theorem State.rxByte_transportCalls (b : Byte) : (s.rxByte b).transportCalls = s.transportCalls := by unfold State.rxByte; split <;> simp
@[simp] theorem State.rxByte_requests (b : Byte) : (s.rxByte b).requests = s.requests := by unfold State.rxByte; split <;> simp
@[simp] theorem State.rxByte_transportAnswers (b : Byte) : (s.rxByte b).transportAnswers = s.transportAnswers := by unfold State.rxByte; split <;> simp
@[simp] theorem State.rxByte_deadlineAnswers (b : Byte) : (s.rxByte b).deadlineAnswers = s.deadlineAnswers := by unfold State.rxByte; split <;> simp
@[simp] theorem State.rxByte_asked (b : Byte) : (s.rxByte b).asked = s.asked := by unfold State.rxByte; split <;> simp

@[simp] theorem State.resetDecoder_rxState : s.resetDecoder.rxState = .idle := rfl

@[simp] theorem State.resetDecoder_rxBuf : s.resetDecoder.rxBuf = [] := rfl

@[simp] theorem State.resetDecoder_rxLen : s.resetDecoder.rxLen = none := rfl

/-! ## What the operations can do -/

/-- A byte in InFrame completes the frame or is kept (R75, R76). -/
theorem State.collect_cases (b : Byte) :
    (s.completes b = true ∧ s.collect b = s.resetDecoder.route (s.rxBuf ++ [b])) ∨
    (s.completes b = false ∧ s.collect b = s.setDecoder s.rxState (s.rxBuf ++ [b]) (s.lenAfter b)) := by
  cases h : s.completes b <;> simp [State.collect, State.completeFrame, h]

/-- The completion test: after the append the buffer is one longer than the length byte says (R76). -/
theorem State.completes_iff (b : Byte) :
    s.completes b = true ↔ ∃ len, s.lenAfter b = some len ∧ s.rxBuf.length = len.toNat := by
  unfold State.completes
  cases h : s.lenAfter b <;> simp

/-- `rx_byte` is one of four things: a marker byte taken, a noise byte reported, a byte collected (R70). -/
theorem State.rxByte_cases (b : Byte) :
    (s.rxState = .idle ∧ b = marker0 ∧ s.rxByte b = s.acceptMarker0) ∨
    (s.rxState = .idle ∧ b ≠ marker0 ∧ s.rxByte b = s.reportNoise b) ∨
    (s.rxState = .sawFirstMarker ∧ b = marker1 ∧ s.rxByte b = s.acceptMarker1) ∨
    (s.rxState = .sawFirstMarker ∧ b ≠ marker1 ∧ s.rxByte b = s.reportNoise b) ∨
    (s.rxState = .inFrame ∧ s.rxByte b = s.collect b) := by
  cases h : s.rxState with
  | idle => by_cases hb : b = marker0 <;> simp [State.rxByte, State.place, h, byteClass, hb]
  | sawFirstMarker => by_cases hb : b = marker1 <;> simp [State.rxByte, State.place, h, byteClass, hb]
  | inFrame => cases hb : s.rxBuf.isEmpty <;> simp [State.rxByte, State.place, h, byteClass, hb]

/-- The coming steps play no part in collecting a byte. -/
theorem State.collect_setRequests (b : Byte) (r : List Instr) :
    (s.setRequests r).collect b = (s.collect b).setRequests r := by
  have h : (s.setRequests r).completes b = s.completes b := rfl
  unfold State.collect
  rw [h]
  split
  · exact s.resetDecoder.route_setRequests _ r
  · rfl

/-- The coming steps play no part in receiving a byte. -/
theorem State.rxByte_setRequests (b : Byte) (r : List Instr) :
    (s.setRequests r).rxByte b = (s.rxByte b).setRequests r := by
  have h : (s.setRequests r).place = s.place := rfl
  unfold State.rxByte
  rw [h]
  split <;> first | rfl | exact s.collect_setRequests b r

/-- A chunk in two parts is the one and then the other: a chunk boundary is not observable (spec/20_memory.md R34). -/
theorem State.rxBytes_append (xs ys : Bytes) : s.rxBytes (xs ++ ys) = (s.rxBytes xs).rxBytes ys := by
  induction xs generalizing s with
  | nil => rfl
  | cons b xs ih => simpa [State.rxBytes] using ih (s.rxByte b)

/-- What every byte keeps, a chunk keeps. -/
theorem State.rxBytes_keeps {P : State → Prop} (hstep : ∀ u b, P u → P (u.rxByte b)) :
    ∀ (xs : Bytes) (s : State), P s → P (s.rxBytes xs)
  | [], _, h => h
  | b :: xs, s, h => State.rxBytes_keeps hstep xs (s.rxByte b) (hstep s b h)

end Sys2Proof.Machine
end

