-- ==== Sys2Proof/Laws/PerInstr.lean ====
section
/-! SUPPORT. Statements made per instruction, about the instruction as syntax: how long its encoding is (spec/30_encoding.md
R60: 9 to 258 bytes for a frame the block writes, 3 to 258 for one it receives, one byte for a received byte). -/

namespace Sys2Proof.Laws

/-- The sizes R60 gives, as the least and the greatest number of bytes. -/
def encodedSizes : Instr → Nat × Nat
  | .frameTx _ _ _ _ => (9, 258)
  | .frameRx _ => (3, 258)
  | _ => (1, 1)

/-- An instruction that has an encoding has one of the sizes of R60. -/
def EncodedSize.Statement (i : Instr) : Prop :=
  i.wellFormed = true → ∀ bytes, encode i = some bytes →
    (encodedSizes i).1 ≤ bytes.length ∧ bytes.length ≤ (encodedSizes i).2

/-- An instruction with no binary encoding (spec/30_encoding.md R59). -/
theorem EncodedSize.of_none {i : Instr} (h : encode i = none) : EncodedSize.Statement i := by
  intro _ bytes e
  rw [h] at e
  cases e

/-- A received byte is one byte. -/
theorem EncodedSize.of_byte {i : Instr} {b : Byte} (h : encode i = some [b]) (hs : encodedSizes i = (1, 1)) :
    EncodedSize.Statement i := by
  intro _ bytes e
  rw [h] at e
  cases e
  simp [hs]

theorem EncodedSize.rxByteIdleMarker0 : EncodedSize.Statement .rxByteIdleMarker0 := EncodedSize.of_byte rfl rfl

theorem EncodedSize.rxByteIdleNoise (b : Byte) : EncodedSize.Statement (.rxByteIdleNoise b) := EncodedSize.of_byte rfl rfl

theorem EncodedSize.rxByteSawMarker1 : EncodedSize.Statement .rxByteSawMarker1 := EncodedSize.of_byte rfl rfl

theorem EncodedSize.rxByteSawFail (b : Byte) : EncodedSize.Statement (.rxByteSawFail b) := EncodedSize.of_byte rfl rfl

theorem EncodedSize.rxByteInframeLength (b : Byte) : EncodedSize.Statement (.rxByteInframeLength b) := EncodedSize.of_byte rfl rfl

theorem EncodedSize.rxByteInframeBody (b : Byte) : EncodedSize.Statement (.rxByteInframeBody b) := EncodedSize.of_byte rfl rfl

theorem EncodedSize.rxByteInframeComplete (b : Byte) : EncodedSize.Statement (.rxByteInframeComplete b) := EncodedSize.of_byte rfl rfl

theorem EncodedSize.reset : EncodedSize.Statement .reset := EncodedSize.of_none rfl

theorem EncodedSize.frameTx (hardwareId sequence : Word16) (commandId : Byte) (payload : Bytes) : EncodedSize.Statement (.frameTx hardwareId sequence commandId payload) := by
  intro hwf bytes e
  have hlen : headerLen + payload.length ≤ maxLength := of_decide_eq_true hwf
  simp only [encode, Option.some.injEq] at e
  subst e
  simp [encodedSizes, buildFrame, le16, headerLen, maxLength] at hlen ⊢
  omega

theorem EncodedSize.frameRx (raw : Bytes) : EncodedSize.Statement (.frameRx raw) := by
  intro hwf bytes e
  simp only [encode, Option.some.injEq] at e
  subst e
  cases raw with
  | nil => simp [Instr.wellFormed, rawFrameOk] at hwf
  | cons len more =>
    have hlen : more.length = len.toNat := by simpa [Instr.wellFormed, rawFrameOk] using hwf
    have := len.isLt
    simp [encodedSizes]
    omega

theorem EncodedSize.routeRunt (raw : Bytes) : EncodedSize.Statement (.routeRunt raw) := EncodedSize.of_none rfl

theorem EncodedSize.routeDecode (raw : Bytes) : EncodedSize.Statement (.routeDecode raw) := EncodedSize.of_none rfl

theorem EncodedSize.routeBoot (p : Packet) : EncodedSize.Statement (.routeBoot p) := EncodedSize.of_none rfl

theorem EncodedSize.routeLog (p : Packet) : EncodedSize.Statement (.routeLog p) := EncodedSize.of_none rfl

theorem EncodedSize.routeStore (p : Packet) : EncodedSize.Statement (.routeStore p) := EncodedSize.of_none rfl

theorem EncodedSize.enqueue (p : Packet) : EncodedSize.Statement (.enqueue p) := EncodedSize.of_none rfl

theorem EncodedSize.drain : EncodedSize.Statement .drain := EncodedSize.of_none rfl

theorem EncodedSize.take (cmd : Option Byte) (seq : Option Word16) : EncodedSize.Statement (.take cmd seq) := EncodedSize.of_none rfl

theorem EncodedSize.takeSeq (seq : Word16) (cmd : Option Byte) : EncodedSize.Statement (.takeSeq seq cmd) := EncodedSize.of_none rfl

theorem EncodedSize.takeCmd (cmd : Byte) : EncodedSize.Statement (.takeCmd cmd) := EncodedSize.of_none rfl

theorem EncodedSize.takeFifo : EncodedSize.Statement .takeFifo := EncodedSize.of_none rfl

theorem EncodedSize.takeWithTimeout (cmd : Option Byte) (seq : Option Word16) (timeout : Nat) : EncodedSize.Statement (.takeWithTimeout cmd seq timeout) := EncodedSize.of_none rfl

theorem EncodedSize.clean (cmd : Option Byte) : EncodedSize.Statement (.clean cmd) := EncodedSize.of_none rfl

theorem EncodedSize.openSession : EncodedSize.Statement .openSession := EncodedSize.of_none rfl

theorem EncodedSize.closeSession : EncodedSize.Statement .closeSession := EncodedSize.of_none rfl

theorem EncodedSize.disconnect : EncodedSize.Statement .disconnect := EncodedSize.of_none rfl

theorem EncodedSize.send (hardwareId : Word16) (commandId : Byte) (payload : Bytes) : EncodedSize.Statement (.send hardwareId commandId payload) := EncodedSize.of_none rfl

theorem EncodedSize.rxByte (b : Byte) : EncodedSize.Statement (.rxByte b) := EncodedSize.of_byte rfl rfl

theorem EncodedSize.route (raw : Bytes) : EncodedSize.Statement (.route raw) := EncodedSize.of_none rfl

end Sys2Proof.Laws
end

