-- ==== Sys2Proof/Laws/Session.lean ====
section
/-! SUPPORT. LinkSession: the fields its operations leave alone, and one lemma each for everything they can do. -/

namespace Sys2Proof.Machine

variable (s : State)

/-! ## The fields the session's operations leave alone -/

@[simp] theorem State.fail_params (e : ErrorCondition) : (s.fail e).params = s.params := by rfl
@[simp] theorem State.fail_rxState (e : ErrorCondition) : (s.fail e).rxState = s.rxState := by rfl
@[simp] theorem State.fail_rxBuf (e : ErrorCondition) : (s.fail e).rxBuf = s.rxBuf := by rfl
@[simp] theorem State.fail_rxLen (e : ErrorCondition) : (s.fail e).rxLen = s.rxLen := by rfl
@[simp] theorem State.fail_txSeq (e : ErrorCondition) : (s.fail e).txSeq = s.txSeq := by rfl
@[simp] theorem State.fail_connected (e : ErrorCondition) : (s.fail e).connected = s.connected := by rfl
@[simp] theorem State.fail_inq (e : ErrorCondition) : (s.fail e).inq = s.inq := by rfl
@[simp] theorem State.fail_pend (e : ErrorCondition) : (s.fail e).pend = s.pend := by rfl
@[simp] theorem State.fail_faultRunt (e : ErrorCondition) : (s.fail e).faultRunt = s.faultRunt := by rfl
@[simp] theorem State.fail_faultOverflow (e : ErrorCondition) : (s.fail e).faultOverflow = s.faultOverflow := by rfl
@[simp] theorem State.fail_tx (e : ErrorCondition) : (s.fail e).tx = s.tx := by rfl
@[simp] theorem State.fail_diag (e : ErrorCondition) : (s.fail e).diag = s.diag := by rfl
@[simp] theorem State.fail_transportCalls (e : ErrorCondition) : (s.fail e).transportCalls = s.transportCalls := by rfl
@[simp] theorem State.fail_requests (e : ErrorCondition) : (s.fail e).requests = s.requests := by rfl
@[simp] theorem State.fail_transportAnswers (e : ErrorCondition) : (s.fail e).transportAnswers = s.transportAnswers := by rfl
@[simp] theorem State.fail_deadlineAnswers (e : ErrorCondition) : (s.fail e).deadlineAnswers = s.deadlineAnswers := by rfl
@[simp] theorem State.fail_asked (e : ErrorCondition) : (s.fail e).asked = s.asked := by rfl

@[simp] theorem State.openAgain_params : s.openAgain.params = s.params := by unfold State.openAgain; split <;> rfl
@[simp] theorem State.openAgain_rxState : s.openAgain.rxState = s.rxState := by unfold State.openAgain; split <;> rfl
@[simp] theorem State.openAgain_rxBuf : s.openAgain.rxBuf = s.rxBuf := by unfold State.openAgain; split <;> rfl
@[simp] theorem State.openAgain_rxLen : s.openAgain.rxLen = s.rxLen := by unfold State.openAgain; split <;> rfl
@[simp] theorem State.openAgain_txSeq : s.openAgain.txSeq = s.txSeq := by unfold State.openAgain; split <;> rfl
@[simp] theorem State.openAgain_connected : s.openAgain.connected = s.connected := by unfold State.openAgain; split <;> rfl
@[simp] theorem State.openAgain_inq : s.openAgain.inq = s.inq := by unfold State.openAgain; split <;> rfl
@[simp] theorem State.openAgain_pend : s.openAgain.pend = s.pend := by unfold State.openAgain; split <;> rfl
@[simp] theorem State.openAgain_faultRunt : s.openAgain.faultRunt = s.faultRunt := by unfold State.openAgain; split <;> rfl
@[simp] theorem State.openAgain_faultOverflow : s.openAgain.faultOverflow = s.faultOverflow := by unfold State.openAgain; split <;> rfl
@[simp] theorem State.openAgain_tx : s.openAgain.tx = s.tx := by unfold State.openAgain; split <;> rfl
@[simp] theorem State.openAgain_diag : s.openAgain.diag = s.diag := by unfold State.openAgain; split <;> rfl
@[simp] theorem State.openAgain_transportCalls : s.openAgain.transportCalls = s.transportCalls := by unfold State.openAgain; split <;> rfl
@[simp] theorem State.openAgain_requests : s.openAgain.requests = s.requests := by unfold State.openAgain; split <;> rfl
@[simp] theorem State.openAgain_transportAnswers : s.openAgain.transportAnswers = s.transportAnswers := by unfold State.openAgain; split <;> rfl
@[simp] theorem State.openAgain_deadlineAnswers : s.openAgain.deadlineAnswers = s.deadlineAnswers := by unfold State.openAgain; split <;> rfl
@[simp] theorem State.openAgain_asked : s.openAgain.asked = s.asked := by unfold State.openAgain; split <;> rfl

@[simp] theorem State.openFirst_params : s.openFirst.params = s.params := by unfold State.openFirst; split <;> simp
@[simp] theorem State.openFirst_rxState : s.openFirst.rxState = s.rxState := by unfold State.openFirst; split <;> simp
@[simp] theorem State.openFirst_rxBuf : s.openFirst.rxBuf = s.rxBuf := by unfold State.openFirst; split <;> simp
@[simp] theorem State.openFirst_rxLen : s.openFirst.rxLen = s.rxLen := by unfold State.openFirst; split <;> simp
@[simp] theorem State.openFirst_txSeq : s.openFirst.txSeq = s.txSeq := by unfold State.openFirst; split <;> simp
@[simp] theorem State.openFirst_inq : s.openFirst.inq = s.inq := by unfold State.openFirst; split <;> simp
@[simp] theorem State.openFirst_pend : s.openFirst.pend = s.pend := by unfold State.openFirst; split <;> simp
@[simp] theorem State.openFirst_faultRunt : s.openFirst.faultRunt = s.faultRunt := by unfold State.openFirst; split <;> simp
@[simp] theorem State.openFirst_faultOverflow : s.openFirst.faultOverflow = s.faultOverflow := by unfold State.openFirst; split <;> simp
@[simp] theorem State.openFirst_tx : s.openFirst.tx = s.tx := by unfold State.openFirst; split <;> simp
@[simp] theorem State.openFirst_diag : s.openFirst.diag = s.diag := by unfold State.openFirst; split <;> simp
@[simp] theorem State.openFirst_requests : s.openFirst.requests = s.requests := by unfold State.openFirst; split <;> simp
@[simp] theorem State.openFirst_deadlineAnswers : s.openFirst.deadlineAnswers = s.deadlineAnswers := by unfold State.openFirst; split <;> simp

@[simp] theorem State.closeDecoder_params : s.closeDecoder.params = s.params := by unfold State.closeDecoder; split <;> rfl
@[simp] theorem State.closeDecoder_txSeq : s.closeDecoder.txSeq = s.txSeq := by unfold State.closeDecoder; split <;> rfl
@[simp] theorem State.closeDecoder_connected : s.closeDecoder.connected = s.connected := by unfold State.closeDecoder; split <;> rfl
@[simp] theorem State.closeDecoder_inq : s.closeDecoder.inq = s.inq := by unfold State.closeDecoder; split <;> rfl
@[simp] theorem State.closeDecoder_pend : s.closeDecoder.pend = s.pend := by unfold State.closeDecoder; split <;> rfl
@[simp] theorem State.closeDecoder_faultRunt : s.closeDecoder.faultRunt = s.faultRunt := by unfold State.closeDecoder; split <;> rfl
@[simp] theorem State.closeDecoder_faultOverflow : s.closeDecoder.faultOverflow = s.faultOverflow := by unfold State.closeDecoder; split <;> rfl
@[simp] theorem State.closeDecoder_tx : s.closeDecoder.tx = s.tx := by unfold State.closeDecoder; split <;> rfl
@[simp] theorem State.closeDecoder_diag : s.closeDecoder.diag = s.diag := by unfold State.closeDecoder; split <;> rfl
@[simp] theorem State.closeDecoder_responses : s.closeDecoder.responses = s.responses := by unfold State.closeDecoder; split <;> rfl
@[simp] theorem State.closeDecoder_transportCalls : s.closeDecoder.transportCalls = s.transportCalls := by unfold State.closeDecoder; split <;> rfl
@[simp] theorem State.closeDecoder_requests : s.closeDecoder.requests = s.requests := by unfold State.closeDecoder; split <;> rfl
@[simp] theorem State.closeDecoder_transportAnswers : s.closeDecoder.transportAnswers = s.transportAnswers := by unfold State.closeDecoder; split <;> rfl
@[simp] theorem State.closeDecoder_deadlineAnswers : s.closeDecoder.deadlineAnswers = s.deadlineAnswers := by unfold State.closeDecoder; split <;> rfl
@[simp] theorem State.closeDecoder_asked : s.closeDecoder.asked = s.asked := by unfold State.closeDecoder; split <;> rfl

@[simp] theorem State.sendFrame_params (h : Word16) (c : Byte) (p : Bytes) : (s.sendFrame h c p).params = s.params := by rfl
@[simp] theorem State.sendFrame_rxState (h : Word16) (c : Byte) (p : Bytes) : (s.sendFrame h c p).rxState = s.rxState := by rfl
@[simp] theorem State.sendFrame_rxBuf (h : Word16) (c : Byte) (p : Bytes) : (s.sendFrame h c p).rxBuf = s.rxBuf := by rfl
@[simp] theorem State.sendFrame_rxLen (h : Word16) (c : Byte) (p : Bytes) : (s.sendFrame h c p).rxLen = s.rxLen := by rfl
@[simp] theorem State.sendFrame_connected (h : Word16) (c : Byte) (p : Bytes) : (s.sendFrame h c p).connected = s.connected := by rfl
@[simp] theorem State.sendFrame_inq (h : Word16) (c : Byte) (p : Bytes) : (s.sendFrame h c p).inq = s.inq := by rfl
@[simp] theorem State.sendFrame_pend (h : Word16) (c : Byte) (p : Bytes) : (s.sendFrame h c p).pend = s.pend := by rfl
@[simp] theorem State.sendFrame_faultRunt (h : Word16) (c : Byte) (p : Bytes) : (s.sendFrame h c p).faultRunt = s.faultRunt := by rfl
@[simp] theorem State.sendFrame_faultOverflow (h : Word16) (c : Byte) (p : Bytes) : (s.sendFrame h c p).faultOverflow = s.faultOverflow := by rfl
@[simp] theorem State.sendFrame_diag (h : Word16) (c : Byte) (p : Bytes) : (s.sendFrame h c p).diag = s.diag := by rfl
@[simp] theorem State.sendFrame_transportCalls (h : Word16) (c : Byte) (p : Bytes) : (s.sendFrame h c p).transportCalls = s.transportCalls := by rfl
@[simp] theorem State.sendFrame_requests (h : Word16) (c : Byte) (p : Bytes) : (s.sendFrame h c p).requests = s.requests := by rfl
@[simp] theorem State.sendFrame_transportAnswers (h : Word16) (c : Byte) (p : Bytes) : (s.sendFrame h c p).transportAnswers = s.transportAnswers := by rfl
@[simp] theorem State.sendFrame_deadlineAnswers (h : Word16) (c : Byte) (p : Bytes) : (s.sendFrame h c p).deadlineAnswers = s.deadlineAnswers := by rfl
@[simp] theorem State.sendFrame_asked (h : Word16) (c : Byte) (p : Bytes) : (s.sendFrame h c p).asked = s.asked := by rfl

@[simp] theorem State.fail_responses (e : ErrorCondition) : (s.fail e).responses = s.responses ++ [.failed e] := rfl

@[simp] theorem State.sendFrame_tx (h : Word16) (c : Byte) (p : Bytes) :
    (s.sendFrame h c p).tx = s.tx ++ [buildFrame h s.txSeq c p] := rfl

@[simp] theorem State.sendFrame_txSeq (h : Word16) (c : Byte) (p : Bytes) :
    (s.sendFrame h c p).txSeq = s.txSeq + 1 := rfl

@[simp] theorem State.sendFrame_responses (h : Word16) (c : Byte) (p : Bytes) :
    (s.sendFrame h c p).responses = s.responses ++ [.sequence s.txSeq] := rfl

/-! ## What the operations can do -/

/-- A second `open` only answers (R131). -/
theorem State.openAgain_cases :
    s.openAgain = s.respond (if s.params.openTwiceReports then .failed .alreadyOpen else .ok) := by
  cases h : s.params.openTwiceReports <;> simp [State.openAgain, State.fail, h]

/-- A first `open` connects, or fails and stays (R131). -/
theorem State.openFirst_cases :
    (s.transportAnswer = true ∧
      s.openFirst = ((s.callTransport .opening).afterTransportAnswer.setConnected true).respond .ok) ∨
    (s.transportAnswer = false ∧
      s.openFirst = (s.callTransport .opening).afterTransportAnswer.fail .transportOpenFailed) := by
  cases h : s.transportAnswer <;> simp [State.openFirst, h]

/-- The decoder at `close` is reset or kept (R132). -/
theorem State.closeDecoder_cases :
    s.closeDecoder = s.resetDecoder ∨ s.closeDecoder = s := by
  unfold State.closeDecoder
  split <;> simp

/-- The length check of R135, as the rule words it. -/
theorem oversized_iff (payload : Bytes) : oversized payload = true ↔ 249 < payload.length := by
  have : oversized payload = true ↔ maxLength < headerLen + payload.length := decide_eq_true_iff
  simp only [this, maxLength, headerLen]
  omega

end Sys2Proof.Machine
end

