-- ==== Sys2Proof/Laws/Run.lean ====
section
/-! SUPPORT. One step and runs of steps: what the next request gives, and how a run of Host/Core.lean goes on from it. -/

namespace Sys2Proof.Machine

/-- A session with no request waits. -/
theorem step_of_idle {s : State} (h : s.requests = []) : step s = .next s := by
  simp [step, h]

/-- A well-formed request is executed on the state without it (spec/20_memory.md R39). -/
theorem step_of_request {s : State} {i : Instr} {rest : List Instr} (h : s.requests = i :: rest)
    (hw : i.wellFormed = true) : step s = exec i (s.setRequests rest) := by
  simp [step, h, hw]

/-- A step that answers a next state waited, or ran a well-formed request. -/
theorem step_next_cases {s t : State} (h : step s = .next t) :
    (s.requests = [] ∧ t = s) ∨
    ∃ i rest, s.requests = i :: rest ∧ i.wellFormed = true ∧ exec i (s.setRequests rest) = .next t := by
  cases hr : s.requests with
  | nil =>
    rw [step_of_idle hr] at h
    cases h
    exact .inl ⟨rfl, rfl⟩
  | cons i rest =>
    cases hw : i.wellFormed with
    | false => simp [step, hr, hw] at h
    | true => exact .inr ⟨i, rest, rfl, hw, by rwa [step_of_request hr hw] at h⟩

/-- No step at all. -/
theorem run_zero (s : State) : core.run 0 s = .next s := rfl

/-- A run goes on from what its first step gives. -/
theorem run_succ_of_next {s t : State} (k : Nat) (h : step s = .next t) : core.run (k + 1) s = core.run k t := by
  have h' : core.step s = .next t := h
  simp only [Host.Core.run]
  rw [h']

end Sys2Proof.Machine
end

