-- ==== Sys2Proof/Tests/Slice0.lean ====
section
/-! SUPPORT. Tests: ill-formed terms, words written out from the spec's encodings, the spec's own vectors
(spec/95_test_vectors.md) one step at a time, and witnesses for the hypotheses of the obligations. Every expected value is the
spec's. -/

namespace Sys2Proof.Tests

open Sys2Proof Sys2Proof.Machine

/-! ## Fixtures -/

/-- The parameters of spec/95_test_vectors.md, "Conventions": DIAGNOSTIC_CMD = 0x11, the banner "BOOT", 7-bit text. -/
def exampleParams : Params := ⟨0x11#8, ⟨⟨0x42#8, [0x4F#8, 0x4F#8, 0x54#8]⟩, []⟩, .ascii7, none, none, false, false⟩

/-- A constructed session with TX_SEQ = 5, not connected. -/
def constructed : State := State.construct exampleParams 5#16

/-- The same after a successful open: the start state of the vectors. -/
def session : State := { constructed with connected := true }

/-- In frame, with these bytes collected. -/
def collecting (buf : Bytes) : State := { session with rxState := .inFrame, rxBuf := buf, rxLen := buf.head? }

/-- A packet of which only the number and the command matter (spec/95_test_vectors.md, section 2.3). -/
def packet (n : Word16) (c : Byte) : Packet := ⟨6#8, 0x1234#16, n, 0x01#8, c, []⟩

/-- A connected session with these packets pending and queued. -/
def storing (pend inq : List Packet) : State := { session with pend := pend, inq := inq }

/-- The next state, if there is one. -/
def nextOf : Host.Outcome State Fault Refusal → Option State
  | .next t => some t
  | .fault _ => none
  | .refused _ => none

/-- Is the step stuck? -/
def stuck : Host.Outcome State Fault Refusal → Bool
  | .next _ => false
  | .fault r => r == .noStep
  | .refused _ => false

/-- Scenario A (S-A): the frame, its raw frame and its packet. -/
def rawA : Bytes := [0x06#8, 0x34#8, 0x12#8, 0x01#8, 0x00#8, 0x01#8, 0x05#8]

def packetA : Packet := ⟨6#8, 0x1234#16, 1#16, 0x01#8, 0x05#8, []⟩

/-- Scenario B (S-B). -/
def rawB : Bytes := [0x08#8, 0x34#8, 0x12#8, 0x02#8, 0x00#8, 0x01#8, 0x07#8, 0x48#8, 0x69#8]

def packetB : Packet := ⟨8#8, 0x1234#16, 2#16, 0x01#8, 0x07#8, [0x48#8, 0x69#8]⟩

/-- V-R2, V-R3, V-R4: a boot announcement, a log line, and a packet that would be both. -/
def bootPacket : Packet := ⟨12#8, 0x1234#16, 0#16, 0x01#8, 0x11#8, [0x42#8, 0x4F#8, 0x4F#8, 0x54#8, 0x20#8, 0x31#8]⟩

def logPacket : Packet := ⟨9#8, 0x1234#16, 7#16, 0x01#8, 0x11#8, [0x02#8, 0x68#8, 0x69#8]⟩

def bothPacket : Packet := ⟨11#8, 0x1234#16, 8#16, 0x01#8, 0x11#8, [0x02#8, 0x42#8, 0x4F#8, 0x4F#8, 0x54#8]⟩

/-! ## WellFormed: one ill-formed term for each check -/

theorem test_wf_noise_is_not_marker0 : (Instr.rxByteIdleNoise 0x22#8).wellFormed = false := by decide

theorem test_wf_fail_is_not_marker1 : (Instr.rxByteSawFail 0x69#8).wellFormed = false := by decide

theorem test_wf_frame_tx_payload : (Instr.frameTx 0#16 0#16 0#8 (List.replicate 250 0#8)).wellFormed = false ∧
    (Instr.frameTx 0#16 0#16 0#8 (List.replicate 249 0#8)).wellFormed = true := by decide +kernel

theorem test_wf_frame_rx_length : (Instr.frameRx [0x03#8, 0xAA#8, 0xBB#8]).wellFormed = false ∧
    (Instr.frameRx []).wellFormed = false := by decide

theorem test_wf_route_length : (Instr.route [0x00#8, 0x00#8]).wellFormed = false ∧ (Instr.route []).wellFormed = false := by
  decide

theorem test_wf_runt_is_short : (Instr.routeRunt rawA).wellFormed = false ∧
    (Instr.routeRunt [0x05#8, 0x01#8]).wellFormed = false := by decide

theorem test_wf_decoded_is_long : (Instr.routeDecode [0x03#8, 0xAA#8, 0xBB#8, 0xCC#8]).wellFormed = false ∧
    (Instr.routeDecode (rawA ++ [0x00#8])).wellFormed = false := by decide

theorem test_wf_boot_packet : (Instr.routeBoot { bootPacket with length := 11#8 }).wellFormed = false := by decide

theorem test_wf_log_packet : (Instr.routeLog { logPacket with length := 8#8 }).wellFormed = false := by decide

theorem test_wf_store_packet : (Instr.routeStore { packetA with length := 0#8 }).wellFormed = false := by decide

theorem test_wf_enqueued_packet : (Instr.enqueue { packetA with length := 7#8 }).wellFormed = false := by decide

/-- An ill-formed request is refused by the step. -/
theorem test_step_refuses_ill_formed :
    step { session with requests := [.route []] } = .refused .illFormed := rfl

/-! ## Decoding, from words written out from R50 and R54 -/

/-- R54: the four classes of a value, in their places. -/
theorem test_decode_received_bytes :
    decode (.received .idle) [0x22#8, 0x41#8] = .instr .rxByteIdleMarker0 [0x41#8] ∧
    decode (.received .idle) [0x69#8] = .instr (.rxByteIdleNoise 0x69#8) [] ∧
    decode (.received .sawFirstMarker) [0x69#8] = .instr .rxByteSawMarker1 [] ∧
    decode (.received .sawFirstMarker) [0x22#8] = .instr (.rxByteSawFail 0x22#8) [] := by decide

/-- R54: in a frame every value is a frame byte. -/
theorem test_decode_frame_bytes :
    decode (.received .lengthByte) [0x22#8] = .instr (.rxByteInframeLength 0x22#8) [] ∧
    decode (.received .bodyByte) [0x69#8] = .instr (.rxByteInframeBody 0x69#8) [] ∧
    decode .completing [0x05#8] = .instr (.rxByteInframeComplete 0x05#8) [] ∧
    decode .rxPort [0xFF#8] = .instr (.rxByte 0xFF#8) [] := by decide

/-- S-A and V-T1: 22 69 06 34 12 01 00 01 05. -/
theorem test_decode_scenario_a :
    decode .outbound (0x22#8 :: 0x69#8 :: rawA) = .instr (.frameTx 0x1234#16 1#16 0x05#8 []) [] ∧
    decode .inbound (0x22#8 :: 0x69#8 :: rawA) = .instr (.frameRx rawA) [] := by decide

/-- S-B and V-T2: 22 69 08 34 12 02 00 01 07 48 69, with a byte after it. -/
theorem test_decode_scenario_b :
    decode .outbound (0x22#8 :: 0x69#8 :: rawB ++ [0x22#8]) =
      .instr (.frameTx 0x1234#16 2#16 0x07#8 [0x48#8, 0x69#8]) [0x22#8] ∧
    decode .inbound (0x22#8 :: 0x69#8 :: rawB ++ [0x22#8]) = .instr (.frameRx rawB) [0x22#8] := by decide

/-- V-T7: 22 69 06 00 FF 35 12 01 FF, low byte first in both fields. -/
theorem test_decode_byte_order :
    decode .outbound [0x22#8, 0x69#8, 0x06#8, 0x00#8, 0xFF#8, 0x35#8, 0x12#8, 0x01#8, 0xFF#8] =
      .instr (.frameTx 0xFF00#16 4661#16 0xFF#8 []) [] := by decide

/-- What is not a frame is rejected by name. -/
theorem test_decode_rejects :
    decode .inbound [] = .rejected .empty ∧
    decode .inbound [0x22#8, 0x22#8, 0x00#8] = .rejected .noMarker ∧
    decode .inbound [0x22#8, 0x69#8] = .rejected .noLength ∧
    decode .inbound [0x22#8, 0x69#8, 0x02#8, 0x41#8] = .rejected .truncated ∧
    decode .outbound [0x22#8, 0x69#8, 0x01#8, 0x41#8] = .rejected .shortLength ∧
    decode .outbound [0x22#8, 0x69#8, 0x06#8, 0#8, 0#8, 0#8, 0#8, 0x02#8, 0#8] = .rejected .systemId ∧
    decode .rxPort [] = .rejected .empty := by decide

/-- What `build` writes (R136), V-T8: no escaping of marker values. -/
theorem test_encode_frame :
    encode (.frameTx 0x0001#16 0#16 0x22#8 [0x22#8, 0x69#8, 0x06#8]) =
      some [0x22#8, 0x69#8, 0x09#8, 0x01#8, 0x00#8, 0x00#8, 0x00#8, 0x01#8, 0x22#8, 0x22#8, 0x69#8, 0x06#8] := by decide

/-- Table words: the byte rows, and a frame of operand bytes zero beyond the marker and the length. -/
theorem test_table_words :
    decodeTableWord 8 0x22 = some .rxByteIdleMarker0 ∧ decodeTableWord 8 0x69 = some .rxByteSawMarker1 ∧
    decodeTableWord 8 0x00 = some (.rxByteInframeLength 0x00#8) ∧
    decodeTableWord 72 0x050100011234066922 = some (.frameRx [0x06#8, 0x34#8, 0x12#8, 0x01#8, 0x00#8, 0x01#8, 0x05#8]) ∧
    decodeTableWord 0 0 = none := by decide +kernel

/-! ## One step of each operation, from spec/95_test_vectors.md -/

/-- V-D20. -/
theorem test_rx_idle_marker0 :
    nextOf (exec .rxByteIdleMarker0 session) = some { session with rxState := .sawFirstMarker } := by decide

/-- V-D21, and the second marker byte met in Idle (V-D6). -/
theorem test_rx_idle_noise :
    nextOf (exec (.rxByteIdleNoise 0x00#8) session) = some { session with diag := [.noise 0x00#8] } ∧
    nextOf (exec (.rxByteIdleNoise 0x69#8) session) = some { session with diag := [.noise 0x69#8] } := by decide

/-- V-D22. -/
theorem test_rx_saw_marker1 :
    nextOf (exec .rxByteSawMarker1 { session with rxState := .sawFirstMarker }) =
      some { session with rxState := .inFrame } := by decide

/-- V-D23: a second 0x22 fails, is reported, and does not hold the hunt. -/
theorem test_rx_saw_fail :
    nextOf (exec (.rxByteSawFail 0x22#8) { session with rxState := .sawFirstMarker }) =
      some { session with diag := [.noise 0x22#8] } := by decide

/-- V-D24: length 0 completes in the step that appends it. -/
theorem test_rx_length_zero :
    nextOf (exec (.rxByteInframeLength 0x00#8) (collecting [])) =
      some { session with faultRunt := true, diag := [.runt [0x00#8]] } := by decide

/-- V-D25. -/
theorem test_rx_length_max :
    nextOf (exec (.rxByteInframeLength 0xFF#8) (collecting [])) = some (collecting [0xFF#8]) := by decide

/-- V-D26: a marker value inside a frame. -/
theorem test_rx_body :
    nextOf (exec (.rxByteInframeBody 0x22#8) (collecting [0x06#8, 0x34#8, 0x12#8, 0x01#8, 0x00#8])) =
      some (collecting [0x06#8, 0x34#8, 0x12#8, 0x01#8, 0x00#8, 0x22#8]) := by decide

/-- V-D27 by its row: the byte that completes Scenario A. -/
theorem test_rx_complete :
    nextOf (exec (.rxByteInframeComplete 0x05#8) (collecting [0x06#8, 0x34#8, 0x12#8, 0x01#8, 0x00#8, 0x01#8])) =
      some { session with inq := [packetA] } := by decide

/-- V-D28: 255 bytes collected, the 256th completes; the fill count is not a byte. -/
theorem test_rx_complete_256 :
    ((nextOf (exec (.rxByteInframeBody 0x07#8) (collecting (0xFF#8 :: List.replicate 254 0x01#8)))).map
      fun t => (t.rxState, t.rxBuf, t.inq.map fun p => (p.length, p.payload.length))) =
      some (.idle, [], [(0xFF#8, 249)]) := by decide +kernel

/-- V-D14 and V-D13: reset from SawFirstMarker and in frame. -/
theorem test_reset :
    nextOf (exec .reset { session with rxState := .sawFirstMarker }) = some session ∧
    nextOf (exec .reset (collecting [0x08#8, 0x34#8, 0x12#8])) = some session := by decide

/-- V-T2, as a frame written. -/
theorem test_frame_tx :
    nextOf (exec (.frameTx 0x1234#16 2#16 0x07#8 [0x48#8, 0x69#8]) { session with txSeq := 2#16 }) =
      some { session with txSeq := 3#16, responses := [.sequence 2#16], tx := [0x22#8 :: 0x69#8 :: rawB] } := by decide

/-- V-D1 and V-D9, a whole frame received. -/
theorem test_frame_rx :
    nextOf (exec (.frameRx rawA) session) = some { session with inq := [packetA] } ∧
    nextOf (exec (.frameRx [0x00#8]) session) = some { session with faultRunt := true, diag := [.runt [0x00#8]] } := by decide

/-- V-D4: the frame directly after a held 0x22 is lost, byte by byte. -/
theorem test_frame_rx_after_stray_marker :
    nextOf (exec (.frameRx [0x01#8, 0x41#8]) { session with rxState := .sawFirstMarker }) =
      some { session with diag := [.noise 0x22#8, .noise 0x69#8, .noise 0x01#8, .noise 0x41#8] } := by decide

/-- V-R11. -/
theorem test_route_runt :
    nextOf (exec (.routeRunt [0x03#8, 0xAA#8, 0xBB#8, 0xCC#8]) session) =
      some { session with faultRunt := true, diag := [.runt [0x03#8, 0xAA#8, 0xBB#8, 0xCC#8]] } := by decide

/-- V-R12: no field is checked. -/
theorem test_route_decode :
    nextOf (exec (.routeDecode [0x06#8, 0xFF#8, 0xFF#8, 0xFF#8, 0xFF#8, 0x7E#8, 0x00#8]) session) =
      some { session with inq := [⟨6#8, 0xFFFF#16, 65535#16, 0x7E#8, 0x00#8, []⟩] } := by decide

/-- V-R2 and V-R4: the banner comes before the log marker, and the message keeps it. -/
theorem test_route_boot :
    nextOf (exec (.routeBoot bootPacket) session) = some { session with diag :=
      [.boot 0x1234#16 [0x42#8, 0x4F#8, 0x4F#8, 0x54#8, 0x20#8, 0x31#8]] } ∧
    nextOf (exec (.routeBoot bothPacket) session) = some { session with diag :=
      [.boot 0x1234#16 [0x02#8, 0x42#8, 0x4F#8, 0x4F#8, 0x54#8]] } := by decide

/-- V-R3. -/
theorem test_route_log :
    nextOf (exec (.routeLog logPacket) session) = some { session with diag := [.log 7#16 [0x68#8, 0x69#8]] } := by decide

/-- V-R14: only the first 0x02 is stripped. -/
theorem test_route_log_strips_one :
    nextOf (exec (.routeLog { logPacket with payload := [0x02#8, 0x02#8, 0x41#8] }) session) =
      some { session with diag := [.log 7#16 [0x02#8, 0x41#8]] } := by decide

/-- V-R5 and V-R8: the diagnostic command with an empty payload; another command with banner and marker. -/
theorem test_route_store :
    nextOf (exec (.routeStore (packet 3#16 0x11#8)) session) = some { session with inq := [packet 3#16 0x11#8] } ∧
    nextOf (exec (.routeStore { bothPacket with commandId := 0x07#8 }) session) =
      some { session with inq := [{ bothPacket with commandId := 0x07#8 }] } := by decide

/-- V-R6: 0xFF fails TEXT_OK, the banner does not count, the log marker does. -/
theorem test_route_undecodable_banner :
    nextOf (exec (.route [0x0C#8, 0x34#8, 0x12#8, 0x09#8, 0x00#8, 0x01#8, 0x11#8, 0x02#8, 0x42#8, 0x4F#8, 0x4F#8, 0x54#8,
      0xFF#8]) session) = some { session with diag := [.log 9#16 [0x42#8, 0x4F#8, 0x4F#8, 0x54#8, 0xFF#8]] } := by decide

/-- V-R15: a proper prefix of the banner is no match. -/
theorem test_route_prefix_of_banner :
    nextOf (exec (.route [0x09#8, 0x34#8, 0x12#8, 0x10#8, 0x00#8, 0x01#8, 0x11#8, 0x42#8, 0x4F#8, 0x4F#8]) session) =
      some { session with inq := [⟨9#8, 0x1234#16, 16#16, 0x01#8, 0x11#8, [0x42#8, 0x4F#8, 0x4F#8]⟩] } := by decide

/-- V-S11. -/
theorem test_enqueue_overflow :
    nextOf (exec (.enqueue (packet 3#16 5#8)) { storing [] [packet 1#16 5#8, packet 2#16 5#8] with
      params := { exampleParams with inqDepth := some 2 } }) =
    some { storing [] [packet 1#16 5#8, packet 2#16 5#8] with
      params := { exampleParams with inqDepth := some 2 }, faultOverflow := true } := by decide

/-- V-S1. -/
theorem test_drain :
    nextOf (exec .drain (storing [packet 1#16 5#8] [packet 2#16 7#8, packet 3#16 5#8])) =
      some { storing [packet 1#16 5#8, packet 2#16 7#8, packet 3#16 5#8] [] with responses := [.count 3] } := by decide

/-- V-S12. -/
theorem test_drain_overflow :
    nextOf (exec .drain { storing [packet 1#16 5#8, packet 2#16 5#8] [packet 3#16 5#8, packet 4#16 5#8] with
      params := { exampleParams with pendDepth := some 3 } }) =
    some { storing [packet 1#16 5#8, packet 2#16 5#8, packet 3#16 5#8] [packet 4#16 5#8] with
      params := { exampleParams with pendDepth := some 3 }, faultOverflow := true, responses := [.count 3] } := by decide

/-- V-S5 and V-S6: the command given beside the number is ignored, with no fallback to it. -/
theorem test_take_priority :
    nextOf (exec (.take (some 5#8) (some 9#16)) (storing [packet 1#16 5#8, packet 9#16 7#8] [])) =
      some { storing [packet 1#16 5#8] [] with responses := [.packet (packet 9#16 7#8)] } ∧
    nextOf (exec (.take (some 5#8) (some 9#16)) (storing [packet 1#16 5#8, packet 2#16 5#8] [])) =
      some { storing [packet 1#16 5#8, packet 2#16 5#8] [] with responses := [.noPacket] } := by decide

/-- V-S2 and V-S7: the first match wins; a queued packet is found. -/
theorem test_take_seq :
    nextOf (exec (.takeSeq 2#16 none) (storing [packet 1#16 5#8, packet 2#16 7#8, packet 2#16 9#8] [])) =
      some { storing [packet 1#16 5#8, packet 2#16 9#8] [] with responses := [.packet (packet 2#16 7#8)] } ∧
    nextOf (exec (.takeSeq 4#16 none) (storing [] [packet 4#16 7#8])) =
      some { session with responses := [.packet (packet 4#16 7#8)] } := by decide

/-- V-S3. -/
theorem test_take_cmd :
    nextOf (exec (.takeCmd 5#8) (storing [packet 1#16 5#8, packet 2#16 7#8, packet 3#16 5#8] [])) =
      some { storing [packet 2#16 7#8, packet 3#16 5#8] [] with responses := [.packet (packet 1#16 5#8)] } ∧
    nextOf (exec (.takeCmd 9#8) (storing [packet 2#16 7#8] [])) =
      some { storing [packet 2#16 7#8] [] with responses := [.noPacket] } := by decide

/-- V-S13 and V-S14: oldest first across the drain; the store works while not connected. -/
theorem test_take_fifo :
    nextOf (exec .takeFifo (storing [packet 1#16 5#8] [packet 2#16 7#8])) =
      some { storing [packet 2#16 7#8] [] with responses := [.packet (packet 1#16 5#8)] } ∧
    nextOf (exec .takeFifo constructed) = some { constructed with responses := [.noPacket] } := by decide

/-- Program P5, polls 1 and 3 of the first call: not yet, one other step in between; then the packet. -/
theorem test_take_with_timeout :
    nextOf (exec (.takeWithTimeout none (some 9#16) 1) { session with
      requests := [.rxByte 0x07#8, .drain], deadlineAnswers := [some 1] }) =
      some { session with requests := [.rxByte 0x07#8, .takeWithTimeout none (some 9#16) 1, .drain] } ∧
    nextOf (exec (.takeWithTimeout none (some 9#16) 1) (storing [] [packet 9#16 7#8])) =
      some { session with responses := [.packet (packet 9#16 7#8)] } := by decide

/-- Program P5, the second call: the deadline has passed after one poll. -/
theorem test_take_with_timeout_fails :
    nextOf (exec (.takeWithTimeout none (some 9#16) 1) { session with deadlineAnswers := [none] }) =
      some { session with responses := [.failed .timeout] } := by decide

/-- V-S8: drains first, then filters, keeping the order. -/
theorem test_clean_command :
    nextOf (exec (.clean (some 5#8)) (storing [packet 1#16 5#8, packet 2#16 7#8, packet 3#16 5#8, packet 4#16 9#8]
      [packet 5#16 5#8, packet 6#16 7#8])) =
      some (storing [packet 2#16 7#8, packet 4#16 9#8, packet 6#16 7#8] []) := by decide

/-- V-S9: queued packets are cleaned too. -/
theorem test_clean_all :
    nextOf (exec (.clean none) (storing [packet 1#16 5#8] [packet 2#16 7#8])) = some session := by decide

/-- V-T11 and the first `open` of V-T10. -/
theorem test_open :
    nextOf (exec .openSession { constructed with transportAnswers := [false] }) =
      some { constructed with transportCalls := [.opening], responses := [.failed .transportOpenFailed] } ∧
    nextOf (exec .openSession { constructed with transportAnswers := [true] }) =
      some { session with transportCalls := [.opening], responses := [.ok] } := by decide

/-- V-T10: the second `open`, with both values of OPEN_TWICE_REPORTS. -/
theorem test_open_twice :
    nextOf (exec .openSession session) = some { session with responses := [.ok] } ∧
    nextOf (exec .openSession { session with params := { exampleParams with openTwiceReports := true } }) =
      some { session with
        params := { exampleParams with openTwiceReports := true }, responses := [.failed .alreadyOpen] } := by decide

/-- V-T13: `close` keeps the partial frame; on a closed session it answers Ok (V-T10). -/
theorem test_close :
    nextOf (exec .closeSession (collecting [0x08#8, 0x34#8])) = some { collecting [0x08#8, 0x34#8] with
      connected := false, transportCalls := [.closing], responses := [.ok] } ∧
    nextOf (exec .closeSession constructed) = some { constructed with responses := [.ok] } := by decide

/-- V-T13 with CLOSE_RESETS_DECODER. -/
theorem test_close_resets_decoder :
    nextOf (exec .closeSession { collecting [0x08#8] with params := { exampleParams with closeResetsDecoder := true } }) =
      some { constructed with
        params := { exampleParams with closeResetsDecoder := true }
        transportCalls := [.closing], responses := [.ok] } := by decide

/-- V-T12 and V-T14. -/
theorem test_disconnect :
    nextOf (exec .disconnect (collecting [0x08#8, 0x34#8, 0x12#8])) = some constructed ∧
    nextOf (exec .disconnect { constructed with rxState := .sawFirstMarker }) = some constructed := by decide

/-- V-T3: the counter wraps. -/
theorem test_send_wraps :
    nextOf (exec (.send 0x0001#16 0x10#8 []) { session with txSeq := 65535#16 }) =
      some { session with
        txSeq := 0#16, responses := [.sequence 65535#16]
        tx := [[0x22#8, 0x69#8, 0x06#8, 0x01#8, 0x00#8, 0xFF#8, 0xFF#8, 0x01#8, 0x10#8]] } := by decide

/-- V-T5 and V-T6: 250 bytes are too many; a session that is not connected is reported first. -/
theorem test_send_fails :
    nextOf (exec (.send 0xBEEF#16 0x20#8 (List.replicate 250 0xA5#8)) session) =
      some { session with responses := [.failed .validationError] } ∧
    nextOf (exec (.send 1#16 2#8 (List.replicate 250 0xA5#8)) constructed) =
      some { constructed with responses := [.failed .notConnected] } := by decide +kernel

/-- `rx_byte` in the middle of P4: the byte completes nothing; and on a closed session it is lost (R141). -/
theorem test_rx_byte :
    nextOf (exec (.rxByte 0x69#8) (collecting [0x08#8])) = some (collecting [0x08#8, 0x69#8]) ∧
    nextOf (exec (.rxByte 0x69#8) constructed) = some constructed := by decide

/-- The host's question: a placed word runs as the first instruction after construction. -/
theorem test_placed_word_runs :
    (nextOf (step (State.reset.withFetchWord 8 0x22))).map (fun t => (t.rxState, t.requests)) =
      some (.sawFirstMarker, []) ∧
    (nextOf (step (State.reset.withFetchWord 8 0x69))).map (fun t => (t.rxState, t.requests)) = some (.inFrame, []) := by
  decide

/-! ## Witnesses: for each obligation with hypotheses, states and operands that meet all of them, clause by clause, at the
boundaries of their ranges -/

/-- A session in mid-frame with a stored packet, a written frame and the answer to it, a runt reported and a byte to come. -/
def busy : State := { collecting [0x06#8, 0x34#8] with
  inq := [packetA]
  pend := [packetB]
  txSeq := 2#16
  tx := [0x22#8 :: 0x69#8 :: rawA]
  responses := [.sequence 1#16]
  faultRunt := true
  diag := [.runt [0x00#8]]
  requests := [.rxByte 0x12#8] }

theorem witness_decoderInv_busy : DecoderInv busy := by
  refine ⟨by decide, by decide, fun _ => ⟨0x06#8, by decide, by decide, by decide⟩⟩

theorem witness_storeInv_busy : StoreInv busy :=
  ⟨by decide, by decide, fun d h => by simp [busy, collecting, session, constructed, State.construct, exampleParams] at h,
    fun d h => by simp [busy, collecting, session, constructed, State.construct, exampleParams] at h⟩

theorem witness_txInv_busy : TxInv busy := by
  refine ⟨fun f h => ?_, fun k f h => ?_, by decide⟩
  · obtain rfl : f = 0x22#8 :: 0x69#8 :: rawA := List.mem_singleton.1 h
    exact ⟨by decide, ⟨0x06#8, by decide, by decide, by decide⟩, by decide⟩
  · match k, h with
    | 0, h =>
      obtain rfl : 0x22#8 :: 0x69#8 :: rawA = f := Option.some.inj h
      decide

theorem witness_runtInv_busy : RuntInv busy := by
  refine ⟨⟨fun _ => ⟨[0x00#8], by decide⟩, fun _ => rfl⟩, fun raw h => ?_⟩
  obtain rfl : raw = [0x00#8] := by simpa [busy] using h
  decide

/-- EveryStepKeepsTheInvariant. -/
theorem witness_every_step : Inv busy ∧ ∃ t, step busy = .next t ∧ t.rxBuf = [0x06#8, 0x34#8, 0x12#8] :=
  ⟨⟨witness_decoderInv_busy, witness_storeInv_busy, witness_txInv_busy, witness_runtInv_busy⟩, _, rfl, by decide⟩

/-- StepRunsTheNextRequest, its three cases. -/
theorem witness_step_runs : session.requests = [] ∧
    busy.requests = [.rxByte 0x12#8] ∧ (Instr.rxByte 0x12#8).wellFormed = true ∧
    ({ session with requests := [.route []] } : State).requests = [.route []] ∧ (Instr.route []).wellFormed = false := by decide

/-- PlacedWordRunsAtTheNextStep: a byte, and a frame with the greatest length byte. -/
theorem witness_placed_word : decodeTableWord 8 0xFF = some (.rxByteInframeLength 0xFF#8) ∧
    decodeTableWord 24 0xFF6922 = some (.frameRx (0xFF#8 :: List.replicate 255 0x00#8)) := by decide +kernel

/-- DecodingUndoesEncoding: one byte, the greatest frame out and the least and greatest frames in. -/
theorem witness_decoding :
    (Instr.rxByteSawFail 0x22#8).wellFormed = true ∧ encode (.rxByteSawFail 0x22#8) = some [0x22#8] ∧
    (Instr.frameTx 1#16 2#16 3#8 (List.replicate 249 0#8)).wellFormed = true ∧
    (encode (.frameTx 1#16 2#16 3#8 (List.replicate 249 0#8))).map List.length = some 258 ∧
    (Instr.frameRx [0x00#8]).wellFormed = true ∧ encode (.frameRx [0x00#8]) = some [0x22#8, 0x69#8, 0x00#8] ∧
    (Instr.frameRx (0xFF#8 :: List.replicate 255 0#8)).wellFormed = true := by decide +kernel

/-- DecodedRowIsTheStepTaken, in the four places. -/
theorem witness_decoded_row : session.connected = true ∧
    decode (.received session.place) [0x22#8] = .instr .rxByteIdleMarker0 [] ∧
    decode (.received ({ session with rxState := .sawFirstMarker } : State).place) [0x22#8] = .instr (.rxByteSawFail 0x22#8) [] ∧
    decode (.received (collecting []).place) [0x22#8] = .instr (.rxByteInframeLength 0x22#8) [] ∧
    decode (.received (collecting [0x01#8]).place) [0x22#8] = .instr (.rxByteInframeBody 0x22#8) [] := by decide

theorem witness_decoderInv_session : DecoderInv session := ⟨by decide, by decide, by decide⟩

theorem witness_decoderInv_saw : DecoderInv { session with rxState := .sawFirstMarker } := ⟨by decide, by decide, by decide⟩

theorem witness_decoderInv_collecting :
    DecoderInv (collecting []) ∧ DecoderInv (collecting [0x01#8]) ∧
    DecoderInv (collecting (0xFF#8 :: List.replicate 254 0x01#8)) :=
  ⟨⟨by decide, by decide, by decide⟩, ⟨by decide, by decide, fun _ => ⟨0x01#8, by decide, by decide, by decide⟩⟩,
    ⟨by decide, by decide, fun _ => ⟨0xFF#8, by decide, by decide, by decide +kernel⟩⟩⟩

/-- RxByteFollowsTheTransitionTable: the in-frame clauses at the length byte 0, at the last byte of a frame of length 1, and at
the 256th byte. -/
theorem witness_transition_table : (collecting []).connected = true ∧ (collecting []).rxState = .inFrame ∧
    (collecting []).rxBuf ++ [0x00#8] = [0x00#8] ∧ ([] : Bytes).length = (0x00#8).toNat ∧
    (collecting []).rxBuf ++ [0x01#8] = [0x01#8] ∧ ([] : Bytes).length ≠ (0x01#8).toNat ∧
    (collecting [0x01#8]).rxBuf ++ [0x22#8] = [0x01#8, 0x22#8] ∧ [0x22#8].length = (0x01#8).toNat ∧
    (List.replicate 254 0x01#8 ++ [0x07#8]).length = (0xFF#8).toNat := by decide +kernel

/-- BytesAreLostWhileNotConnected. -/
theorem witness_not_connected : constructed.connected = false := rfl

/-- FirstMarkerIsHeldUnreported, SecondMarkerOpensAnEmptyFrame, NoiseIsReportedAndDropped. -/
theorem witness_hunting : session.connected = true ∧ session.rxState = .idle ∧ (0x69#8 : Byte) ≠ 0x22#8 ∧
    ({ session with rxState := .sawFirstMarker } : State).connected = true ∧
    ({ session with rxState := .sawFirstMarker } : State).rxState = .sawFirstMarker ∧ (0x22#8 : Byte) ≠ 0x69#8 := by decide

/-- InFrameBytesAreCollected: the least length byte that does not complete, and the byte before the last of 256. -/
theorem witness_collected : (collecting []).connected = true ∧ (collecting []).rxState = .inFrame ∧
    (collecting []).rxBuf = [] ∧ (0x01#8 : Byte) ≠ 0x00#8 ∧
    (collecting (0xFF#8 :: List.replicate 253 0#8)).rxBuf ≠ [] ∧
    (collecting (0xFF#8 :: List.replicate 253 0#8)).rxLen = some 0xFF#8 ∧
    (collecting (0xFF#8 :: List.replicate 253 0#8)).rxBuf.length ≠ (0xFF#8).toNat := by decide +kernel

/-- CompletedFrameIsRouted: the length byte 0 alone, and the 256th byte. -/
theorem witness_completed : (if (collecting []).rxBuf = [] then some 0x00#8 else (collecting []).rxLen) = some 0x00#8 ∧
    (collecting []).rxBuf.length = (0x00#8).toNat ∧
    (if (collecting (0xFF#8 :: List.replicate 254 0#8)).rxBuf = [] then some 0x07#8
      else (collecting (0xFF#8 :: List.replicate 254 0#8)).rxLen) = some 0xFF#8 ∧
    (collecting (0xFF#8 :: List.replicate 254 0#8)).rxBuf.length = (0xFF#8).toNat := by decide +kernel

/-- UnselectedBranchHasNoStep has no hypothesis; both sides of its equivalences occur. -/
theorem witness_stuck : stuck (exec (.rxByteIdleNoise 0x22#8) session) = true ∧
    stuck (exec (.rxByteInframeComplete 0x05#8) (collecting [0x02#8])) = true ∧
    stuck (exec (.frameTx 1#16 4#16 1#8 []) session) = true ∧ stuck (exec (.frameTx 1#16 5#16 1#8 []) session) = false ∧
    stuck (exec (.routeLog bothPacket) session) = true := by decide

/-- FrameFromIdleIsRoutedOnce: the least and the greatest frame. -/
theorem witness_whole_frame : session.connected = true ∧ session.rxState = .idle ∧ session.rxBuf = [] ∧ session.rxLen = none ∧
    rawFrameOk [0x00#8] = true ∧ rawFrameOk (0xFF#8 :: List.replicate 255 0x22#8) = true := by decide +kernel

/-- StreamIsFramedWithoutLoss: the noise of V-D3 and V-D5 before two frames, and a byte after them; and what R80 excludes. -/
theorem witness_stream :
    (∀ w ∈ [([0x41#8, 0x42#8], [Diag.noise 0x41#8, .noise 0x42#8], rawA), ([0x22#8, 0x41#8], [.noise 0x41#8], [0x00#8])],
      quietNoise w.1 = some w.2.1 ∧ rawFrameOk w.2.2 = true) ∧
    quietNoise [0x43#8] = some [.noise 0x43#8] ∧ quietNoise [0x22#8] = none ∧ quietNoise [0x22#8, 0x69#8] = none := by decide

/-- RouteTakesExactlyOneBranch and RuntFrameIsFlaggedNotStored: six bytes and seven. -/
theorem witness_route_lengths : [0x05#8, 0#8, 0#8, 0#8, 0#8, 0#8].length < 7 ∧ 7 ≤ rawA.length := by decide

/-- PacketFieldsComeFromTheirBytes: payloads of 0 and of 249 bytes. -/
theorem witness_packet_fields :
    packetA = decodePacket [0x06#8, 0x34#8, 0x12#8, 0x01#8, 0x00#8, 0x01#8, 0x05#8] ∧ rawFrameOk rawA = true ∧
    rawFrameOk ([0xFF#8, 0x34#8, 0x12#8, 0x01#8, 0x00#8, 0x01#8, 0x05#8] ++ List.replicate 249 0#8) = true := by decide +kernel

/-- ClassificationGoesInOrder: a packet that meets both tests, one that meets the second, one that meets neither. -/
theorem witness_classification :
    (bothPacket.commandId = exampleParams.diagnosticCmd ∧
      ∃ b ∈ exampleParams.bootBanners.all, (b.first :: b.rest) <:+: bothPacket.payload) ∧
    (bothPacket.commandId = exampleParams.diagnosticCmd ∧ bothPacket.payload = 0x02#8 :: [0x42#8, 0x4F#8, 0x4F#8, 0x54#8]) ∧
    textOk exampleParams.textRule bothPacket.payload = true ∧
    (logPacket.commandId = exampleParams.diagnosticCmd ∧ logPacket.payload = 0x02#8 :: [0x68#8, 0x69#8]) ∧
    (¬∃ b ∈ exampleParams.bootBanners.all, (b.first :: b.rest) <:+: logPacket.payload) ∧
    packetA.commandId ≠ exampleParams.diagnosticCmd := by decide

/-- BootAnnouncementIsReportedNotStored: V-R13, the payload is the banner. -/
theorem witness_boot : (packet 14#16 0x11#8).commandId = session.params.diagnosticCmd ∧
    textOk session.params.textRule [0x42#8, 0x4F#8, 0x4F#8, 0x54#8] = true ∧
    (⟨0x42#8, [0x4F#8, 0x4F#8, 0x54#8]⟩ : Banner) ∈ session.params.bootBanners.all ∧
    (0x42#8 :: [0x4F#8, 0x4F#8, 0x54#8]) <:+: [0x42#8, 0x4F#8, 0x4F#8, 0x54#8] := by decide

/-- LogLineIsReportedNotStored: V-R10, the marker alone; V-R6, a banner in a payload that is no text. -/
theorem witness_log : (packet 13#16 0x11#8).commandId = session.params.diagnosticCmd ∧
    (∀ b ∈ session.params.bootBanners.all, ¬(b.first :: b.rest) <:+: [0x02#8]) ∧
    textOk session.params.textRule [0x02#8, 0x42#8, 0x4F#8, 0x4F#8, 0x54#8, 0xFF#8] = false := by decide

/-- OperationalPacketIsEnqueued: another command; the diagnostic command with V-R7 and with an empty payload. -/
theorem witness_operational : packetA.commandId ≠ session.params.diagnosticCmd ∧
    textOk session.params.textRule [0x80#8, 0x42#8, 0x4F#8, 0x4F#8, 0x54#8] = false ∧
    (∀ b ∈ session.params.bootBanners.all, ¬(b.first :: b.rest) <:+: ([] : Bytes)) := by decide

/-- LogLinesNeverReachTheStore: a log line routed beside a stored packet that is none. -/
theorem witness_log_lines : (∀ p, Instr.routeLog logPacket ≠ .enqueue p) ∧
    (∃ t, exec (.routeLog logPacket) (storing [packetB] [packetA]) = .next t) ∧
    ∀ p ∈ (storing [packetB] [packetA]).inq ++ (storing [packetB] [packetA]).pend, p.payload.head? ≠ some 0x02#8 :=
  ⟨by simp, ⟨_, rfl⟩, by decide⟩

/-- EnqueueAppendsOrOverflows and DrainMovesTheQueueInOrder: one place left, none left; just fitting, one too many, full. -/
theorem witness_depths : [packetA].length < 2 ∧ 2 ≤ [packetA, packetB].length ∧ 0 ≤ ([] : List Packet).length ∧
    [packetA].length + [packetB].length ≤ 2 ∧ 1 < [packetA].length + [packetB].length ∧ [packetA].length ≤ 1 := by decide

/-- TakeBySequence…, TakeByCommand…, TakeWithoutFilter…: a match in the middle, a match at the front, none. -/
theorem witness_take : nextOf (exec .drain (storing [packet 1#16 5#8] [packet 2#16 7#8, packet 3#16 5#8])) =
      some { storing ([packet 1#16 5#8] ++ packet 2#16 7#8 :: [packet 3#16 5#8]) [] with responses := [.count 3] } ∧
    (∀ q ∈ [packet 1#16 5#8], q.sequence ≠ 2#16) ∧ (∀ q ∈ [packet 1#16 5#8], q.commandId ≠ 7#8) ∧
    (∀ q ∈ ([] : List Packet), q.sequence ≠ 1#16) ∧
    nextOf (exec .drain session) = some { session with responses := [.count 0] } := by decide

/-- SecondTakeOfTheSameNumberFindsNothing, and the last clause of TakeBySequenceReturnsTheFirstMatch. -/
theorem witness_second_take : (storing [packet 1#16 5#8] [packet 2#16 7#8]).params.pendDepth = none ∧
    (storing [packet 1#16 5#8] [packet 2#16 7#8]).pend ++ (storing [packet 1#16 5#8] [packet 2#16 7#8]).inq =
      [packet 1#16 5#8] ++ packet 2#16 7#8 :: [] ∧
    (∀ q ∈ [packet 1#16 5#8] ++ [], q.sequence ≠ 2#16) ∧
    nextOf (exec (.take none (some 2#16)) (storing [packet 1#16 5#8] [packet 2#16 7#8])) =
      some { storing [packet 1#16 5#8] [] with responses := [.packet (packet 2#16 7#8)] } := by decide

/-- PollReturnsTimesOutOrGoesOn: the answers State can hold. -/
theorem witness_poll : ({ session with deadlineAnswers := [none] } : State).deadlineAnswers = none :: [] ∧
    ({ session with deadlineAnswers := [some 0] } : State).deadlineAnswers = some 0 :: [] ∧ session.deadlineAnswers = [] := by
  decide

/-- TimeoutComesWithTheDeadline: the deadline has passed at the first poll, or at the third. -/
theorem witness_timeout : ([none] : List (Option Nat)) = List.replicate 0 (some 0) ++ none :: [] ∧
    ([some 0, some 0, none] : List (Option Nat)) = List.replicate 2 (some 0) ++ none :: [] ∧
    session.params.pendDepth = none ∧ (∀ p ∈ [packetB] ++ [packetA], p.sequence ≠ 9#16) := by decide

/-- OpenConnectsIfTheTransportAccepts, its three cases. -/
theorem witness_open : constructed.connected = false ∧ constructed.transportAnswers = [] ∧
    ({ constructed with transportAnswers := [true] } : State).transportAnswers = true :: [] ∧
    ({ constructed with transportAnswers := [false] } : State).transportAnswers = false :: [] := by decide

/-- SecondOpenChangesNothing and CloseKeepsTheStore. -/
theorem witness_connected : session.connected = true ∧ session.params.closeResetsDecoder = false ∧
    ({ session with params := { exampleParams with closeResetsDecoder := true } } : State).params.closeResetsDecoder = true ∧
    constructed.connected = false := by decide

/-- SendWritesTheFrameAndCounts and FailedSendChangesNothing: 249 bytes (V-T4) and 250. -/
theorem witness_send : session.connected = true ∧ (List.replicate 249 0xA5#8).length ≤ 249 ∧
    255 < 6 + (List.replicate 250 0xA5#8).length ∧ constructed.connected = false := by decide +kernel

/-- SuccessiveSendsCountUp: across the wrap. -/
theorem witness_sends : ({ session with txSeq := 65535#16 } : State).connected = true ∧
    ∀ k ∈ [(1#16, 1#8, ([] : Bytes)), (2#16, 1#8, List.replicate 249 0#8)], k.2.2.length ≤ 249 := by decide +kernel

/-- SentFrameComesBackWhole: V-T1, with the sender and the receiver one session. -/
theorem witness_sent_frame : ∃ u, exec (.send 0x1234#16 0x05#8 []) { session with txSeq := 1#16 } = .next u ∧
    u.tx = session.tx ++ [0x22#8 :: 0x69#8 :: rawA] ∧ u.connected = true ∧ u.rxState = .idle ∧ u.rxBuf = [] ∧ u.rxLen = none :=
  ⟨_, rfl, by decide⟩

/-- OnlySendMovesTheCounter, OnlyThreeOperationsMoveConnected, NothingPutOutIsTakenBack, UnboundedStoreNeverOverflows and the
frames: a next state exists for each of the groups of instructions named. -/
theorem witness_frames : (∃ t, exec (.send 1#16 1#8 []) session = .next t) ∧ (∃ t, exec (.rxByte 0x22#8) session = .next t) ∧
    (∃ t, exec (.routeBoot bootPacket) session = .next t) ∧ (∃ t, exec (.takeSeq 1#16 none) session = .next t) ∧
    (∃ t, exec .disconnect session = .next t) ∧ session.params.inqDepth = none ∧ session.params.pendDepth = none :=
  ⟨⟨_, rfl⟩, ⟨_, rfl⟩, ⟨_, rfl⟩, ⟨_, rfl⟩, ⟨_, rfl⟩, rfl, rfl⟩

/-- OnlyCompletionOrResetEndsAFrame: a step that keeps the frame and one that completes it (V-D26, V-D24). -/
theorem witness_frame_in_progress : (collecting [0x06#8]).rxState = .inFrame ∧ (∀ raw, Instr.rxByte 0x22#8 ≠ .frameRx raw) ∧
    (∃ t, exec (.rxByte 0x22#8) (collecting [0x06#8]) = .next t) ∧
    (∃ t, exec (.rxByteInframeLength 0x00#8) (collecting []) = .next t) :=
  ⟨rfl, by simp, ⟨_, rfl⟩, ⟨_, rfl⟩⟩

/-- OnlyThreeOperationsMoveConnected: both changes occur. -/
theorem witness_connected_moves :
    (nextOf (exec .openSession { constructed with transportAnswers := [true] })).map State.connected = some true ∧
    (nextOf (exec .disconnect session)).map State.connected = some false := by decide

end Sys2Proof.Tests
end

section
/-! SUPPORT. FrameDecoder: the second marker byte (spec/40_frame_decoder.md R74), by its row and by `rx_byte`. -/

namespace Sys2Proof.Machine

variable {s : State}

/-- While connected, `rx_byte` is the dispatch of R70. -/
theorem exec_rxByte_of_connected (b : Byte) (hc : s.connected = true) : exec (.rxByte b) s = .next (s.rxByte b) := by
  change Host.Outcome.next (if s.connected then s.rxByte b else s) = _
  rw [if_pos hc]

/-- In SawFirstMarker the second marker byte selects the row of R74. -/
theorem State.selects_sawMarker1 (hc : s.connected = true) (hs : s.rxState = .sawFirstMarker) :
    s.selects .sawMarker1 marker1 = true := by
  have hplace : s.place = .sawFirstMarker := by simp [State.place, hs]
  simp [State.selects, hc, hplace, byteClass]

/-- The row of R74, where it is selected. -/
theorem exec_rxByteSawMarker1_of_saw (hc : s.connected = true) (hs : s.rxState = .sawFirstMarker) :
    exec .rxByteSawMarker1 s = .next s.acceptMarker1 :=
  branch_eq_next.mpr ⟨State.selects_sawMarker1 hc hs, rfl⟩

/-- In SawFirstMarker the dispatch of R70 takes the second marker byte. -/
theorem State.rxByte_marker1_of_saw (hs : s.rxState = .sawFirstMarker) : s.rxByte marker1 = s.acceptMarker1 := by
  simpa [hs] using s.rxByte_cases marker1

/-- Settles O12: the row and `rx_byte` both answer `acceptMarker1`, which writes the decoder's three fields and no other. -/
theorem secondMarkerOpensAnEmptyFrame : Obligations.SecondMarkerOpensAnEmptyFrame := by
  intro s hc hs
  have haccept : s.acceptMarker1 = { s with rxState := .inFrame, rxBuf := [], rxLen := none } := rfl
  rw [← haccept]
  constructor
  · exact exec_rxByteSawMarker1_of_saw hc hs
  · rw [← State.rxByte_marker1_of_saw hs]
    exact exec_rxByte_of_connected marker1 hc

end Sys2Proof.Machine
end

section
/-! SUPPORT. PacketRouter: the third outcome (spec/41_packet_router.md R96), from the words of R93 to the row. -/

namespace Sys2Proof.Machine

/-- A payload that is no text, or that holds no banner, has no banner in its text (R93, R97). -/
theorem hasBanner_textOf_eq_false {rule : TextRule} {banners : Banners} {x : Bytes}
    (h : textOk rule x = false ∨ ∀ b ∈ banners.all, ¬(b.first :: b.rest) <:+: x) :
    hasBanner banners (textOf rule x) = false := by
  cases hok : textOk rule x with
  | false => simpa [textOf, hok] using hasBanner_nil banners
  | true =>
    have hnone : ∀ b ∈ banners.all, ¬(b.first :: b.rest) <:+: x := by simpa [hok] using h
    have htext : textOf rule x = x := by simp [textOf, hok]
    rw [htext, Bool.eq_false_iff, ne_eq, hasBanner_iff]
    rintro ⟨b, hb, hin⟩
    exact hnone b hb hin

/-- With no banner in the text and no log marker in front, the third outcome is left, whatever the command (R93). -/
theorem classify_store_of_plain {c : Params} {p : Packet}
    (hbanner : hasBanner c.bootBanners (textOf c.textRule p.payload) = false)
    (hmarker : ∀ rest, p.payload ≠ 0x02#8 :: rest) : classify c p = .store := by
  have hboot : classify c p ≠ .boot := by
    rw [ne_eq, classify_boot_iff, ← hasBanner_iff, hbanner]
    simp
  have hlog : classify c p ≠ .log := by
    rw [ne_eq, classify_log_iff]
    rintro ⟨-, -, rest, hrest⟩
    exact hmarker rest hrest
  exact (classify_store_iff c p).mpr ⟨hboot, hlog⟩

/-- The row of R96, where it is selected. -/
theorem exec_routeStore_of_store {s : State} {p : Packet} (h : classify s.params p = .store) :
    exec (.routeStore p) s = .next (s.enqueue p) :=
  branch_eq_next.mpr ⟨by simp [h], rfl⟩

/-- Settles O27: a packet of another command, or one with neither banner nor log marker, takes the third outcome, which is
`enqueue`; and `enqueue` emits nothing on DIAG. -/
theorem operationalPacketIsEnqueued : Obligations.OperationalPacketIsEnqueued := by
  intro s p h
  have hstore : classify s.params p = .store := by
    rcases h with hcmd | ⟨hbanner, hmarker⟩
    · exact classify_of_not_diagnostic hcmd
    · exact classify_store_of_plain (hasBanner_textOf_eq_false hbanner) hmarker
  exact ⟨s.enqueue p, rfl, exec_routeStore_of_store hstore, s.enqueue_diag p⟩

end Sys2Proof.Machine
end


section
/-! SUPPORT. PacketStore: `take` (spec/42_packet_store.md R113 to R116), from the pick that the arguments make to its rows. -/

namespace Sys2Proof.Machine

variable (s : State)

/-! ## The rows as operations of the store -/

theorem exec_drain : exec .drain s = .next (s.drain.respond (.count s.drain.pend.length)) := rfl

theorem exec_take (cmd : Option Byte) (seq : Option Word16) :
    exec (.take cmd seq) s = .next (s.take (pickOf cmd seq)) := rfl

theorem exec_takeSeq (n : Word16) (cmd : Option Byte) :
    exec (.takeSeq n cmd) s = .next (s.take (.bySequence n)) := rfl

theorem exec_takeCmd (c : Byte) : exec (.takeCmd c) s = .next (s.take (.byCommand c)) := rfl

theorem exec_takeFifo : exec .takeFifo s = .next (s.take .oldest) := rfl

/-! ## What a pick accepts -/

@[simp] theorem Pick.accepts_bySequence (n : Word16) (p : Packet) :
    (Pick.bySequence n).accepts p = (p.sequence == n) := rfl

@[simp] theorem Pick.accepts_byCommand (c : Byte) (p : Packet) :
    (Pick.byCommand c).accepts p = (p.commandId == c) := rfl

@[simp] theorem Pick.accepts_oldest (p : Packet) : Pick.oldest.accepts p = true := rfl

/-! ## The two outcomes of a take, as whole states -/

variable {s} {k : Pick} {before after : List Packet} {p : Packet}

/-- Where the drained PEND holds an accepted packet, the take removes and answers the first of them. -/
theorem State.take_eq_of_first (hpend : s.drain.pend = before ++ p :: after)
    (hbefore : ∀ q ∈ before, k.accepts q = false) (hp : k.accepts p = true) :
    s.take k = { s.drain with pend := before ++ after, responses := s.responses ++ [.packet p] } := by
  obtain ⟨hfound, hafter⟩ := s.take_first hpend hbefore hp
  have hresponse : s.takeResponse k = .packet p := by simp [State.takeResponse, hfound]
  rw [State.take, hafter, hresponse, ← s.drain_responses]
  rfl

/-- Where the drained PEND holds no accepted packet, the take removes nothing and answers None. -/
theorem State.take_eq_of_none (hnone : ∀ q ∈ s.drain.pend, k.accepts q = false) :
    s.take k = { s.drain with responses := s.responses ++ [.noPacket] } := by
  obtain ⟨hfound, hafter⟩ := s.take_none hnone
  have hresponse : s.takeResponse k = .noPacket := by simp [State.takeResponse, hfound]
  rw [State.take, hafter, hresponse, ← s.drain_responses]
  rfl

/-- One of the two outcomes always comes. -/
theorem State.take_eq_cases (s : State) (k : Pick) :
    s.take k = { s.drain with responses := s.responses ++ [.noPacket] } ∨
    ∃ before p after, s.drain.pend = before ++ p :: after ∧
      s.take k = { s.drain with pend := before ++ after, responses := s.responses ++ [.packet p] } := by
  cases h : s.found k with
  | none => exact .inl (State.take_eq_of_none (by simpa [State.found] using h))
  | some p =>
    obtain ⟨hp, before, after, hpend, hbefore⟩ := List.find?_eq_some_iff_append.mp h
    exact .inr ⟨before, p, after, hpend, State.take_eq_of_first hpend (by simpa using hbefore) hp⟩

/-- Where no stored packet is accepted, before any drain, the take answers None. -/
theorem State.takeResponse_of_none_stored (hnone : ∀ q ∈ s.inq ++ s.pend, k.accepts q = false) :
    s.takeResponse k = .noPacket := by
  have hfound : s.found k = none := (s.take_none fun q hq => hnone q (s.mem_drain_pend hq)).1
  simp [State.takeResponse, hfound]

/-- Once the only accepted packet is taken, the next take of the same pick answers None (R114 corner (d)). -/
theorem State.takeResponse_take_of_unique (hpend : s.drain.pend = before ++ p :: after) (hp : k.accepts p = true)
    (hothers : ∀ q ∈ before ++ after ++ s.drain.inq, k.accepts q = false) :
    (s.take k).takeResponse k = .noPacket := by
  have hbefore : ∀ q ∈ before, k.accepts q = false := fun q hq => hothers q (by simp [hq])
  apply State.takeResponse_of_none_stored
  intro q hq
  rw [State.take_eq_of_first hpend hbefore hp] at hq
  exact hothers q (List.mem_append.mpr (List.mem_append.mp hq).symm)

/-! ## The obligations -/

/-- Settles O31: the rows run the pick by sequence, whatever the `cmd`; its first match is removed and answered, and an only
match is gone at the second call. -/
theorem takeBySequenceReturnsTheFirstMatch : Obligations.TakeBySequenceReturnsTheFirstMatch := by
  intro s n cmd
  refine ⟨_, exec_drain s, rfl, ?first, ?none, ?second⟩
  case first =>
    intro before p after hpend hbefore hp
    rw [exec_takeSeq, State.take_eq_of_first hpend (by simpa using hbefore) (by simpa using hp)]
    rfl
  case none =>
    intro hnone
    rw [exec_takeSeq, State.take_eq_of_none (by simpa using hnone)]
    rfl
  case second =>
    intro before p after t hpend hp hothers ht
    obtain rfl : s.take (.bySequence n) = t := by simpa [exec_takeSeq] using ht
    have hresponse : (s.take (.bySequence n)).takeResponse (.bySequence n) = .noPacket :=
      State.takeResponse_take_of_unique hpend (by simpa using hp) (by simpa using hothers)
    exact ⟨_, exec_takeSeq _ n cmd, by rw [State.take_responses, hresponse]⟩

/-- Settles O32: the rows run the pick by command, whose first match is removed and answered. -/
theorem takeByCommandReturnsTheFirstMatch : Obligations.TakeByCommandReturnsTheFirstMatch := by
  intro s c
  refine ⟨_, exec_drain s, rfl, ?first, ?none⟩
  case first =>
    intro before p after hpend hbefore hp
    rw [exec_takeCmd, State.take_eq_of_first hpend (by simpa using hbefore) (by simpa using hp)]
    rfl
  case none =>
    intro hnone
    rw [exec_takeCmd, State.take_eq_of_none (by simpa using hnone)]
    rfl

/-- Settles O33: with no filter every packet is accepted, so the first match is the head of PEND. -/
theorem takeWithoutFilterPopsTheOldest : Obligations.TakeWithoutFilterPopsTheOldest := by
  intro s
  refine ⟨_, exec_drain s, rfl, ?first, ?none⟩
  case first =>
    intro p rest hpend
    rw [exec_takeFifo, State.take_eq_of_first (before := []) hpend (by simp) (Pick.accepts_oldest p)]
    rfl
  case none =>
    intro hempty
    have hpend : s.drain.pend = [] := hempty
    rw [exec_takeFifo, State.take_eq_of_none (by simp [hpend])]
    rfl

/-- Settles O34: the row and `take` run the same pick, which the arguments' presence alone decides, and a take has two
outcomes. -/
theorem takeDispatchesOnPresence : Obligations.TakeDispatchesOnPresence := by
  intro s cmd seq
  refine ⟨s.take (pickOf cmd seq), _, exec_take s cmd seq, ?seq, ?cmd, ?fifo, exec_drain s, ?outcome⟩
  case seq =>
    rintro n rfl
    exact exec_takeSeq s n cmd
  case cmd =>
    rintro c rfl rfl
    exact exec_takeCmd s c
  case fifo =>
    rintro rfl rfl
    exact exec_takeFifo s
  case outcome => exact s.take_eq_cases (pickOf cmd seq)

end Sys2Proof.Machine
end

section
/-! SUPPORT. The meanings of the rows as equations and the conditions of the branch rows in the words of
spec/30_encoding.md R54; then, once for all instructions, everything that an answered next state can be. -/

namespace Sys2Proof.Machine

variable (s : State)

/-! ## The rows of reception -/

theorem exec_rxByteIdleMarker0 :
    exec .rxByteIdleMarker0 s = branch (s.selects .idleMarker0 marker0) s.acceptMarker0 := rfl

theorem exec_rxByteIdleNoise (b : Byte) :
    exec (.rxByteIdleNoise b) s = branch (s.selects .idleNoise b) (s.reportNoise b) := rfl

theorem exec_rxByteSawMarker1 :
    exec .rxByteSawMarker1 s = branch (s.selects .sawMarker1 marker1) s.acceptMarker1 := rfl

theorem exec_rxByteSawFail (b : Byte) :
    exec (.rxByteSawFail b) s = branch (s.selects .sawFail b) (s.reportNoise b) := rfl

theorem exec_rxByteInframeLength (b : Byte) :
    exec (.rxByteInframeLength b) s = branch (s.selects .inframeLength b) (s.collect b) := rfl

theorem exec_rxByteInframeBody (b : Byte) :
    exec (.rxByteInframeBody b) s = branch (s.selects .inframeBody b) (s.collect b) := rfl

theorem exec_rxByteInframeComplete (b : Byte) :
    exec (.rxByteInframeComplete b) s =
      branch (s.connected && s.rxState == .inFrame && s.completes b) (s.completeFrame b) := rfl

theorem exec_rxByte (b : Byte) : exec (.rxByte b) s = .next (if s.connected then s.rxByte b else s) := rfl

theorem exec_frameRx (raw : Bytes) :
    exec (.frameRx raw) s = .next (if s.connected then s.rxBytes (marker0 :: marker1 :: raw) else s) := rfl

theorem exec_reset : exec .reset s = .next s.resetDecoder := rfl

/-! ## The rows of routing and of the store -/

theorem exec_route (raw : Bytes) : exec (.route raw) s = .next (s.route raw) := rfl

theorem exec_routeRunt (raw : Bytes) : exec (.routeRunt raw) s = branch (decide (raw.length < 7)) (s.runt raw) := rfl

theorem exec_routeDecode (raw : Bytes) :
    exec (.routeDecode raw) s = branch (decide (7 ≤ raw.length)) (s.classified (decodePacket raw)) := rfl

theorem exec_routeBoot (p : Packet) : exec (.routeBoot p) s = branch (classify s.params p == .boot) (s.boot p) := rfl

theorem exec_routeLog (p : Packet) : exec (.routeLog p) s = branch (classify s.params p == .log) (s.log p) := rfl

theorem exec_routeStore (p : Packet) :
    exec (.routeStore p) s = branch (classify s.params p == .store) (s.enqueue p) := rfl

theorem exec_enqueue (p : Packet) : exec (.enqueue p) s = .next (s.enqueue p) := rfl

theorem exec_takeWithTimeout (cmd : Option Byte) (seq : Option Word16) (timeout : Nat) :
    exec (.takeWithTimeout cmd seq timeout) s = .next (s.poll (pickOf cmd seq) (.takeWithTimeout cmd seq timeout)) := rfl

theorem exec_clean (cmd : Option Byte) :
    exec (.clean cmd) s = .next (s.drain.setPend (s.drain.pend.filter (keptByClean cmd))) := rfl

/-! ## The rows of the session -/

theorem exec_openSession : exec .openSession s = .next (if s.connected then s.openAgain else s.openFirst) := rfl

theorem exec_closeSession : exec .closeSession s =
    .next ((if s.connected then ((s.setConnected false).callTransport .closing).closeDecoder else s).respond .ok) := rfl

theorem exec_disconnect : exec .disconnect s = .next (s.resetDecoder.setConnected false) := rfl

theorem exec_send (h : Word16) (c : Byte) (payload : Bytes) : exec (.send h c payload) s = .next (if s.connected then
    if oversized payload then s.fail .validationError else s.sendFrame h c payload else s.fail .notConnected) := rfl

theorem exec_frameTx (h n : Word16) (c : Byte) (payload : Bytes) : exec (.frameTx h n c payload) s =
    branch (s.connected && !oversized payload && n == s.txSeq) (s.sendFrame h c payload) := rfl

/-! ## The rows of the session, by the branch their operation takes -/

variable {s}

theorem exec_openSession_of_connected (hc : s.connected = true) : exec .openSession s = .next s.openAgain := by
  rw [exec_openSession, if_pos hc]

theorem exec_openSession_of_closed (hc : s.connected = false) : exec .openSession s = .next s.openFirst := by
  rw [exec_openSession, if_neg (by simp [hc])]

theorem exec_closeSession_of_connected (hc : s.connected = true) : exec .closeSession s =
    .next (((s.setConnected false).callTransport .closing).closeDecoder.respond .ok) := by
  rw [exec_closeSession, if_pos hc]

theorem exec_closeSession_of_closed (hc : s.connected = false) : exec .closeSession s = .next (s.respond .ok) := by
  rw [exec_closeSession, if_neg (by simp [hc])]

theorem oversized_eq_false_iff (payload : Bytes) : oversized payload = false ↔ payload.length ≤ 249 := by
  rw [Bool.eq_false_iff, ne_eq, oversized_iff, not_lt]

theorem exec_send_of_closed (h : Word16) (c : Byte) (payload : Bytes) (hc : s.connected = false) :
    exec (.send h c payload) s = .next (s.fail .notConnected) := by
  rw [exec_send, if_neg (by simp [hc])]

theorem exec_send_of_oversized (h : Word16) (c : Byte) {payload : Bytes} (hc : s.connected = true)
    (hp : 249 < payload.length) : exec (.send h c payload) s = .next (s.fail .validationError) := by
  rw [exec_send, if_pos hc, if_pos ((oversized_iff payload).mpr hp)]

theorem exec_send_of_fits (h : Word16) (c : Byte) {payload : Bytes} (hc : s.connected = true)
    (hp : payload.length ≤ 249) : exec (.send h c payload) s = .next (s.sendFrame h c payload) := by
  rw [exec_send, if_pos hc, if_neg (by simp [(oversized_eq_false_iff payload).mpr hp])]

/-! ## Where a branch row is selected -/

variable {b : Byte} {p : Place}

@[simp] theorem byteClass_eq_idleMarker0 : byteClass p b = .idleMarker0 ↔ p = .idle ∧ b = marker0 := by
  cases p <;> grind [byteClass]

@[simp] theorem byteClass_eq_idleNoise : byteClass p b = .idleNoise ↔ p = .idle ∧ b ≠ marker0 := by
  cases p <;> grind [byteClass]

@[simp] theorem byteClass_eq_sawMarker1 : byteClass p b = .sawMarker1 ↔ p = .sawFirstMarker ∧ b = marker1 := by
  cases p <;> grind [byteClass]

@[simp] theorem byteClass_eq_sawFail : byteClass p b = .sawFail ↔ p = .sawFirstMarker ∧ b ≠ marker1 := by
  cases p <;> grind [byteClass]

@[simp] theorem byteClass_eq_inframeLength : byteClass p b = .inframeLength ↔ p = .lengthByte := by
  cases p <;> grind [byteClass]

@[simp] theorem byteClass_eq_inframeBody : byteClass p b = .inframeBody ↔ p = .bodyByte := by
  cases p <;> grind [byteClass]

@[simp] theorem State.place_eq_idle : s.place = .idle ↔ s.rxState = .idle := by
  cases h : s.rxState <;> grind [State.place]

@[simp] theorem State.place_eq_sawFirstMarker : s.place = .sawFirstMarker ↔ s.rxState = .sawFirstMarker := by
  cases h : s.rxState <;> grind [State.place]

@[simp] theorem State.place_eq_lengthByte : s.place = .lengthByte ↔ s.rxState = .inFrame ∧ s.rxBuf = [] := by
  cases h : s.rxState <;> grind [State.place]

@[simp] theorem State.place_eq_bodyByte : s.place = .bodyByte ↔ s.rxState = .inFrame ∧ s.rxBuf ≠ [] := by
  cases h : s.rxState <;> grind [State.place]

/-- A row of R54 is selected while connected, where its class is that of the byte. -/
theorem State.selects_iff {c : ByteClass} : s.selects c b = true ↔ s.connected = true ∧ byteClass s.place b = c := by
  simp [State.selects]

/-- The completion row is selected while connected and in a frame that the byte completes. -/
theorem selects_complete_iff : (s.connected && s.rxState == .inFrame && s.completes b) = true ↔
    s.connected = true ∧ s.rxState = .inFrame ∧ s.completes b = true := by
  simp [and_assoc]

/-- The row of a frame going out is selected where `send` of its fields succeeds with its number. -/
theorem selects_frameTx_iff {n : Word16} {payload : Bytes} :
    (s.connected && !oversized payload && n == s.txSeq) = true ↔
      s.connected = true ∧ payload.length ≤ 249 ∧ n = s.txSeq := by
  simp [oversized_eq_false_iff, and_assoc]

/-! ## The rows of reception are `rx_byte` where they are selected -/

/-- In a frame `rx_byte` collects the byte, the first as well as a later one (R70). -/
theorem State.rxByte_inFrame (h : s.rxState = .inFrame) : s.rxByte b = s.collect b := by
  simpa [h] using s.rxByte_cases b

theorem State.rxByte_idleMarker0 (h : s.rxState = .idle) : s.rxByte marker0 = s.acceptMarker0 := by
  simpa [h] using s.rxByte_cases marker0

theorem State.rxByte_idleNoise (h : s.rxState = .idle) (hb : b ≠ marker0) : s.rxByte b = s.reportNoise b := by
  simpa [h, hb] using s.rxByte_cases b

theorem State.rxByte_sawFail (h : s.rxState = .sawFirstMarker) (hb : b ≠ marker1) :
    s.rxByte b = s.reportNoise b := by
  simpa [h, hb] using s.rxByte_cases b

end Sys2Proof.Machine
end

section
/-! SUPPORT. What an answered step can be, said once for all 29 rows, in three groups (reception and routing, the store, the
session): the next state is one of a few operations applied to the state before. The statements about every instruction are
case splits over these effects. -/

namespace Sys2Proof

/-! ## The groups of instructions -/

/-- The part of the block an instruction runs in: FrameDecoder with PacketRouter and `enqueue`, PacketStore, LinkSession. -/
inductive Part where
  | reception
  | store
  | session

/-- The part of each row. -/
def Instr.part : Instr → Part
  | .drain | .take _ _ | .takeSeq _ _ | .takeCmd _ | .takeFifo | .takeWithTimeout _ _ _ | .clean _ => .store
  | .openSession | .closeSession | .disconnect | .send _ _ _ | .frameTx _ _ _ _ => .session
  | .rxByteIdleMarker0 | .rxByteIdleNoise _ | .rxByteSawMarker1 | .rxByteSawFail _ | .rxByteInframeLength _
  | .rxByteInframeBody _ | .rxByteInframeComplete _ | .rxByte _ | .frameRx _ | .reset | .routeRunt _ | .routeDecode _
  | .routeBoot _ | .routeLog _ | .routeStore _ | .enqueue _ | .route _ => .reception

end Sys2Proof

namespace Sys2Proof.Machine

/-- What reception, routing, `enqueue` and `reset` can do. -/
inductive ReceptionEffect (s : State) (i : Instr) : State → Prop
  | lost : ReceptionEffect s i s
  | hunted (b : Byte) (hs : s.rxState ≠ .inFrame) : ReceptionEffect s i (s.rxByte b)
  | collected (b : Byte) (hs : s.rxState = .inFrame)
      (hi : i = .rxByte b ∨ i = .rxByteInframeLength b ∨ i = .rxByteInframeBody b ∨ i = .rxByteInframeComplete b) :
      ReceptionEffect s i (s.collect b)
  | framed (raw : Bytes) (hi : i = .frameRx raw) : ReceptionEffect s i (s.rxBytes (marker0 :: marker1 :: raw))
  | reset (hi : i = .reset) : ReceptionEffect s i s.resetDecoder
  | routed (raw : Bytes) (hi : i = .route raw ∨ i = .routeRunt raw ∨ i = .routeDecode raw) :
      ReceptionEffect s i (s.route raw)
  | classified (p : Packet) (hi : i = .routeBoot p ∨ i = .routeLog p ∨ i = .routeStore p) :
      ReceptionEffect s i (s.classified p)
  | enqueued (p : Packet) (hi : i = .enqueue p) : ReceptionEffect s i (s.enqueue p)

/-- What the consumer's operations of the store can do. -/
inductive StoreEffect (s : State) (i : Instr) : State → Prop
  | drained (hi : i = .drain) : StoreEffect s i (s.drain.respond (.count s.drain.pend.length))
  | taken (k : Pick) : StoreEffect s i (s.take k)
  | polled (k : Pick) : StoreEffect s i (s.poll k i)
  | cleaned (cmd : Option Byte) : StoreEffect s i (s.drain.setPend (s.drain.pend.filter (keptByClean cmd)))

/-- What the session's operations can do. -/
inductive SessionEffect (s : State) (i : Instr) : State → Prop
  | opened (hi : i = .openSession) (hc : s.connected = false) : SessionEffect s i s.openFirst
  | openedAgain (hc : s.connected = true) : SessionEffect s i s.openAgain
  | closed (hi : i = .closeSession) :
      SessionEffect s i (((s.setConnected false).callTransport .closing).closeDecoder.respond .ok)
  | closedAgain (hc : s.connected = false) : SessionEffect s i (s.respond .ok)
  | disconnected (hi : i = .disconnect) : SessionEffect s i (s.resetDecoder.setConnected false)
  | sent (h : Word16) (c : Byte) (payload : Bytes) (hc : s.connected = true) (hp : payload.length ≤ 249)
      (hi : i = .send h c payload ∨ i = .frameTx h s.txSeq c payload) : SessionEffect s i (s.sendFrame h c payload)
  | sendFailed (e : ErrorCondition) : SessionEffect s i (s.fail e)

variable {s t : State}

/-! ## The rows of reception and routing are operations of the block where they are selected -/

theorem State.classified_of_boot {p : Packet} (h : classify s.params p = .boot) : s.classified p = s.boot p := by
  simp [State.classified, h]

theorem State.classified_of_log {p : Packet} (h : classify s.params p = .log) : s.classified p = s.log p := by
  simp [State.classified, h]

theorem State.classified_of_store {p : Packet} (h : classify s.params p = .store) : s.classified p = s.enqueue p := by
  simp [State.classified, h]

theorem State.collect_of_completes {b : Byte} (hdone : s.completes b = true) : s.collect b = s.completeFrame b := by
  rw [State.collect, if_pos hdone]

theorem State.collect_of_not_completes {b : Byte} (hopen : s.completes b = false) :
    s.collect b = s.setDecoder s.rxState (s.rxBuf ++ [b]) (s.lenAfter b) := by
  rw [State.collect, if_neg (by simp [hopen])]

/-- A runt is routed as one. -/
theorem State.route_of_short {raw : Bytes} (h : raw.length < 7) : s.route raw = s.runt raw := by
  simp [State.route, h]

/-- A longer frame is routed by its packet. -/
theorem State.route_of_long {raw : Bytes} (h : 7 ≤ raw.length) : s.route raw = s.classified (decodePacket raw) := by
  simp [State.route, Nat.not_lt.mpr h]

/-! ## Every answered step is one of the effects -/

/-- A row of reception or routing, where it answers a next state. -/
theorem receptionEffect_of_exec {i : Instr} (hi : i.part = .reception) (h : exec i s = .next t) :
    ReceptionEffect s i t := by
  cases i
  case rxByteIdleMarker0 =>
    rw [exec_rxByteIdleMarker0, branch_eq_next, State.selects_iff] at h
    obtain ⟨⟨-, hclass⟩, rfl⟩ := h
    have hs : s.rxState = .idle := by simpa using hclass
    rw [← State.rxByte_idleMarker0 hs]
    exact .hunted _ (by simp [hs])
  case rxByteIdleNoise b =>
    rw [exec_rxByteIdleNoise, branch_eq_next, State.selects_iff] at h
    obtain ⟨⟨-, hclass⟩, rfl⟩ := h
    obtain ⟨hs, hb⟩ : s.rxState = .idle ∧ b ≠ marker0 := by simpa using hclass
    rw [← State.rxByte_idleNoise hs hb]
    exact .hunted _ (by simp [hs])
  case rxByteSawMarker1 =>
    rw [exec_rxByteSawMarker1, branch_eq_next, State.selects_iff] at h
    obtain ⟨⟨-, hclass⟩, rfl⟩ := h
    have hs : s.rxState = .sawFirstMarker := by simpa using hclass
    rw [← State.rxByte_marker1_of_saw hs]
    exact .hunted _ (by simp [hs])
  case rxByteSawFail b =>
    rw [exec_rxByteSawFail, branch_eq_next, State.selects_iff] at h
    obtain ⟨⟨-, hclass⟩, rfl⟩ := h
    obtain ⟨hs, hb⟩ : s.rxState = .sawFirstMarker ∧ b ≠ marker1 := by simpa using hclass
    rw [← State.rxByte_sawFail hs hb]
    exact .hunted _ (by simp [hs])
  case rxByteInframeLength b =>
    rw [exec_rxByteInframeLength, branch_eq_next, State.selects_iff] at h
    obtain ⟨⟨-, hclass⟩, rfl⟩ := h
    obtain ⟨hs, -⟩ : s.rxState = .inFrame ∧ s.rxBuf = [] := by simpa using hclass
    exact .collected b hs (by simp)
  case rxByteInframeBody b =>
    rw [exec_rxByteInframeBody, branch_eq_next, State.selects_iff] at h
    obtain ⟨⟨-, hclass⟩, rfl⟩ := h
    obtain ⟨hs, -⟩ : s.rxState = .inFrame ∧ s.rxBuf ≠ [] := by simpa using hclass
    exact .collected b hs (by simp)
  case rxByteInframeComplete b =>
    rw [exec_rxByteInframeComplete, branch_eq_next, selects_complete_iff] at h
    obtain ⟨⟨-, hs, hb⟩, rfl⟩ := h
    rw [← State.collect_of_completes hb]
    exact .collected b hs (by simp)
  case rxByte b =>
    rw [exec_rxByte] at h
    obtain rfl : (if s.connected then s.rxByte b else s) = t := by simpa using h
    split
    · by_cases hs : s.rxState = .inFrame
      · rw [State.rxByte_inFrame hs]
        exact .collected b hs (by simp)
      · exact .hunted b hs
    · exact .lost
  case frameRx raw =>
    rw [exec_frameRx] at h
    obtain rfl : (if s.connected then s.rxBytes (marker0 :: marker1 :: raw) else s) = t := by simpa using h
    split
    · exact .framed raw rfl
    · exact .lost
  case reset =>
    cases h
    exact .reset rfl
  case routeRunt raw =>
    rw [exec_routeRunt, branch_eq_next] at h
    obtain ⟨hlen, rfl⟩ := h
    rw [← State.route_of_short (of_decide_eq_true hlen)]
    exact .routed raw (by simp)
  case routeDecode raw =>
    rw [exec_routeDecode, branch_eq_next] at h
    obtain ⟨hlen, rfl⟩ := h
    rw [← State.route_of_long (of_decide_eq_true hlen)]
    exact .routed raw (by simp)
  case route raw =>
    cases h
    exact .routed raw (by simp)
  case routeBoot p =>
    rw [exec_routeBoot, branch_eq_next, beq_iff_eq] at h
    obtain ⟨hclass, rfl⟩ := h
    rw [← State.classified_of_boot hclass]
    exact .classified p (by simp)
  case routeLog p =>
    rw [exec_routeLog, branch_eq_next, beq_iff_eq] at h
    obtain ⟨hclass, rfl⟩ := h
    rw [← State.classified_of_log hclass]
    exact .classified p (by simp)
  case routeStore p =>
    rw [exec_routeStore, branch_eq_next, beq_iff_eq] at h
    obtain ⟨hclass, rfl⟩ := h
    rw [← State.classified_of_store hclass]
    exact .classified p (by simp)
  case enqueue p =>
    cases h
    exact .enqueued p rfl
  all_goals cases hi

/-- An operation of the store's consumer. -/
theorem storeEffect_of_exec {i : Instr} (hi : i.part = .store) (h : exec i s = .next t) : StoreEffect s i t := by
  cases i <;> cases hi <;> cases h
  case drain => exact .drained rfl
  case take cmd seq => exact .taken (pickOf cmd seq)
  case takeSeq n cmd => exact .taken (pickOf cmd (some n))
  case takeCmd c => exact .taken (pickOf (some c) none)
  case takeFifo => exact .taken (pickOf none none)
  case takeWithTimeout cmd seq timeout => exact .polled (pickOf cmd seq)
  case clean cmd => exact .cleaned cmd

/-- An operation of the session. -/
theorem sessionEffect_of_exec {i : Instr} (hi : i.part = .session) (h : exec i s = .next t) :
    SessionEffect s i t := by
  cases i
  case openSession =>
    cases hc : s.connected with
    | false =>
      obtain rfl : s.openFirst = t := by simpa [exec_openSession_of_closed hc] using h
      exact .opened rfl hc
    | true =>
      obtain rfl : s.openAgain = t := by simpa [exec_openSession_of_connected hc] using h
      exact .openedAgain hc
  case closeSession =>
    cases hc : s.connected with
    | false =>
      obtain rfl : s.respond .ok = t := by simpa [exec_closeSession_of_closed hc] using h
      exact .closedAgain hc
    | true =>
      rw [exec_closeSession_of_connected hc] at h
      cases h
      exact .closed rfl
  case disconnect =>
    cases h
    exact .disconnected rfl
  case send h' c payload =>
    cases hc : s.connected with
    | false =>
      obtain rfl : s.fail .notConnected = t := by simpa [exec_send_of_closed h' c payload hc] using h
      exact .sendFailed .notConnected
    | true =>
      rcases Nat.lt_or_ge 249 payload.length with hp | hp
      · obtain rfl : s.fail .validationError = t := by simpa [exec_send_of_oversized h' c hc hp] using h
        exact .sendFailed .validationError
      · obtain rfl : s.sendFrame h' c payload = t := by simpa [exec_send_of_fits h' c hc hp] using h
        exact .sent h' c payload hc hp (.inl rfl)
  case frameTx h' n c payload =>
    rw [exec_frameTx, branch_eq_next, selects_frameTx_iff] at h
    obtain ⟨⟨hc, hp, rfl⟩, rfl⟩ := h
    exact .sent h' c payload hc hp (.inr rfl)
  all_goals cases hi

/-- Whatever the instruction, an answered next state is one of the effects. -/
theorem effect_of_exec {i : Instr} (h : exec i s = .next t) :
    ReceptionEffect s i t ∨ StoreEffect s i t ∨ SessionEffect s i t := by
  cases hi : i.part with
  | reception => exact .inl (receptionEffect_of_exec hi h)
  | store => exact .inr (.inl (storeEffect_of_exec hi h))
  | session => exact .inr (.inr (sessionEffect_of_exec hi h))

end Sys2Proof.Machine
end

section
/-! SUPPORT. The wire frame (spec/30_encoding.md R50, R51): byte order, the raw frame that `build` makes, and what decoding
gives back of it. -/

namespace Sys2Proof

/-! ## Byte order -/

/-- Low byte first and back again (R7). -/
@[simp] theorem unLE16_lowByte_highByte (v : Word16) : unLE16 (lowByte v) (highByte v) = v := by
  apply BitVec.eq_of_toNat_eq
  simp only [unLE16, lowByte, highByte, BitVec.toNat_ofNat]
  omega

/-- Two bytes never exceed a 16-bit field. -/
theorem toNat_unLE16 (a b : Byte) : (unLE16 a b).toNat = a.toNat + 256 * b.toNat := by
  simp only [unLE16, BitVec.toNat_ofNat]
  omega

/-! ## The frame `build` makes -/

variable (h n : Word16) (c : Byte) (payload : Bytes)

/-- The raw frame of `build(H, S, C, P)`: the marker removed (R51). -/
def rawOf : Bytes :=
  BitVec.ofNat 8 (headerLen + payload.length) :: lowByte h :: highByte h :: lowByte n :: highByte n :: systemIdTx :: c
    :: payload

theorem buildFrame_eq : buildFrame h n c payload = marker0 :: marker1 :: rawOf h n c payload := rfl

@[simp] theorem length_rawOf : (rawOf h n c payload).length = 7 + payload.length := by
  simp only [rawOf, List.length_cons]
  omega

@[simp] theorem length_buildFrame : (buildFrame h n c payload).length = 9 + payload.length := by
  rw [buildFrame_eq, List.length_cons, List.length_cons, length_rawOf]
  omega

/-- Each field of the packet is that of `build`. -/
theorem decodePacket_rawOf : decodePacket (rawOf h n c payload) =
    ⟨BitVec.ofNat 8 (headerLen + payload.length), h, n, systemIdTx, c, payload⟩ := by
  simp [decodePacket, rawOf, byteAt]

/-- The number that a frame of `build` carries. -/
@[simp] theorem frameNumber_buildFrame : Machine.frameNumber (buildFrame h n c payload) = n :=
  unLE16_lowByte_highByte n

variable {payload}

/-- With at most 249 bytes the length byte does not wrap (R135). -/
theorem toNat_lengthByte (hp : payload.length ≤ 249) :
    (BitVec.ofNat 8 (headerLen + payload.length)).toNat = 6 + payload.length := by
  simp only [headerLen, BitVec.toNat_ofNat]
  omega

/-- A frame of `build` is a raw frame behind its marker (R51). -/
theorem rawFrameOk_rawOf (hp : payload.length ≤ 249) : rawFrameOk (rawOf h n c payload) = true := by
  rw [rawOf, rawFrameOk, toNat_lengthByte hp, beq_iff_eq]
  simp only [List.length_cons]
  omega

/-- What `build` makes is a frame the block may write (R136). -/
theorem outboundFrame_buildFrame (hp : payload.length ≤ 249) : Machine.OutboundFrame (buildFrame h n c payload) where
  marker := rfl
  size := by
    have hlen := toNat_lengthByte hp
    exact ⟨_, rfl, by omega, by rw [length_buildFrame]; omega⟩
  system := rfl

/-! ## Reading a frame -/

/-- A raw frame is its length byte and that many bytes (R51). -/
theorem rawFrameOk_iff {raw : Bytes} :
    rawFrameOk raw = true ↔ ∃ len more, raw = len :: more ∧ more.length = len.toNat := by
  cases raw <;> simp [rawFrameOk]

/-- A whole frame is read up to its length, whatever follows it (R53). -/
theorem decodeFrame_of_raw (use : Bytes → Bytes → Decoded) {raw : Bytes} (hraw : rawFrameOk raw = true) (rest : Bytes) :
    decodeFrame use (marker0 :: marker1 :: raw ++ rest) = use raw rest := by
  obtain ⟨len, more, rfl, hlen⟩ := rawFrameOk_iff.mp hraw
  simp [decodeFrame, ← hlen]

/-- The outbound reading of a raw frame of `build` gives back its arguments. -/
theorem outboundOf_rawOf (hp : payload.length ≤ 249) (rest : Bytes) :
    outboundOf (rawOf h n c payload) rest = .instr (.frameTx h n c payload) rest := by
  have hlong : ¬(byteAt (rawOf h n c payload) 0).toNat < headerLen := by
    have hfirst : byteAt (rawOf h n c payload) 0 = BitVec.ofNat 8 (headerLen + payload.length) := rfl
    rw [hfirst, toNat_lengthByte hp, headerLen]
    omega
  have hsystem : byteAt (rawOf h n c payload) 5 = systemIdTx := rfl
  simp [outboundOf, hlong, hsystem, decodePacket_rawOf]

/-- Settles O7: a received byte is its own encoding, read in the place its class names; a frame is read up to the length its
length byte announces, and its fields come back from their bytes. -/
theorem decodingUndoesEncoding : Obligations.DecodingUndoesEncoding := by
  intro i bytes rest hwf he
  cases i <;> cases he
  case rxByteIdleNoise b =>
    have hb : b ≠ marker0 := by simpa [Instr.wellFormed] using hwf
    simp [decode, Instr.context, decodeByte, byteClass, hb, classRow]
  case rxByteSawFail b =>
    have hb : b ≠ marker1 := by simpa [Instr.wellFormed] using hwf
    simp [decode, Instr.context, decodeByte, byteClass, hb, classRow]
  case frameTx h n c payload =>
    have hp : payload.length ≤ 249 := by
      have hle : headerLen + payload.length ≤ maxLength := of_decide_eq_true hwf
      simp only [headerLen, maxLength] at hle
      omega
    rw [buildFrame_eq, Instr.context, decode, decodeFrame_of_raw _ (rawFrameOk_rawOf h n c hp)]
    exact outboundOf_rawOf h n c hp rest
  case frameRx raw => exact decodeFrame_of_raw (fun raw rest => .instr (.frameRx raw) rest) hwf rest
  all_goals rfl

end Sys2Proof
end

section
/-! SUPPORT. The invariant of Safety.lean, part by part: each part looks at a few fields only, so an operation that leaves
these alone keeps it; then the operations that do write them; then every step. -/

namespace Sys2Proof.Machine

variable {s t : State}

/-! ## What leaves the fields of a part alone keeps it -/

theorem DecoderInv.of_same (h : DecoderInv s) (hst : t.rxState = s.rxState) (hbuf : t.rxBuf = s.rxBuf)
    (hlen : t.rxLen = s.rxLen) : DecoderInv t where
  hunting := by simpa [hst, hbuf, hlen] using h.hunting
  unset := by simpa [hbuf, hlen] using h.unset
  collecting := by simpa [hbuf, hlen] using h.collecting

/-- A store whose packets were stored before, and no more of them in either list. -/
theorem StoreInv.of_fewer (h : StoreInv s) (hpar : t.params = s.params)
    (hpackets : ∀ p ∈ t.inq ++ t.pend, p ∈ s.inq ++ s.pend) (hinq : t.inq.length ≤ s.inq.length)
    (hpend : ∀ d, t.params.pendDepth = some d → t.pend.length ≤ d) : StoreInv t := by
  have hok : ∀ p ∈ t.inq ++ t.pend, p.length.toNat = 6 + p.payload.length := fun p hp =>
    (List.mem_append.mp (hpackets p hp)).elim (h.inqPackets p) (h.pendPackets p)
  exact {
    inqPackets := fun p hp => hok p (List.mem_append_left _ hp)
    pendPackets := fun p hp => hok p (List.mem_append_right _ hp)
    inqFits := fun d hd => hinq.trans (h.inqFits d (hpar ▸ hd))
    pendFits := hpend }

theorem StoreInv.of_same (h : StoreInv s) (hpar : t.params = s.params) (hinq : t.inq = s.inq)
    (hpend : t.pend = s.pend) : StoreInv t :=
  h.of_fewer hpar (by simp [hinq, hpend]) (by simp [hinq]) (by simpa [hpar, hpend] using h.pendFits)

/-- Answers that are no sequence number play no part. -/
theorem TxInv.of_same (h : TxInv s) (hseq : t.txSeq = s.txSeq) (htx : t.tx = s.tx)
    (hresp : t.responses.filterMap Response.number = s.responses.filterMap Response.number) : TxInv t where
  frames := by simpa [htx] using h.frames
  numbers := by simpa [htx, hseq] using h.numbers
  answered := by rw [hresp, htx]; exact h.answered

/-- Events that are no runts play no part. -/
theorem RuntInv.of_same (h : RuntInv s) (hflag : t.faultRunt = s.faultRunt)
    (hdiag : ∀ raw, Diag.runt raw ∈ t.diag ↔ Diag.runt raw ∈ s.diag) : RuntInv t where
  flagged := by simpa [hflag, hdiag] using h.flagged
  short := by simpa [hdiag] using h.short

/-! ## The store -/

/-- `enqueue` of a packet that exists keeps INQ within its depth (R111). -/
theorem StoreInv.enqueue (h : StoreInv s) {p : Packet} (hp : p.length.toNat = 6 + p.payload.length) :
    StoreInv (s.enqueue p) := by
  obtain ⟨hroom, e⟩ | ⟨-, e⟩ := s.enqueue_cases p <;> rw [e]
  · refine ⟨?inqPackets, h.pendPackets, ?inqFits, h.pendFits⟩
    case inqPackets =>
      intro q hq
      obtain hq | rfl : q ∈ s.inq ∨ q = p := by simpa using hq
      · exact h.inqPackets q hq
      · exact hp
    case inqFits =>
      intro d hd
      have hlt : s.inq.length < d := s.inqHasRoom_iff.mp hroom d hd
      simpa using hlt
  · exact h.of_same rfl rfl rfl

/-- `drain` only moves packets, and as many as PEND has room for (R112). -/
theorem StoreInv.drain (h : StoreInv s) : StoreInv s.drain := by
  apply h.of_fewer s.drain_params
  case hpackets =>
    intro p hp
    rcases List.mem_append.mp hp with hp | hp
    · exact List.mem_append_left _ (s.mem_drain_inq hp)
    · exact s.mem_drain_pend hp
  case hinq => obtain ⟨-, e⟩ | ⟨d, -, -, e⟩ := s.drain_cases <;> simp [e]
  case hpend =>
    intro d hd
    rw [s.drain_params] at hd
    have hfits : s.pend.length ≤ d := h.pendFits d hd
    obtain ⟨hno, e⟩ | ⟨d', hd', -, e⟩ := s.drain_cases
    · have hle : ¬d < s.pend.length + s.inq.length := fun hlt => by
        simp [s.drainOverflows_iff.mpr ⟨d, hd, hlt⟩] at hno
      rw [e, State.setInq_pend, State.setPend_pend, List.length_append]
      omega
    · obtain rfl : d = d' := by simpa [hd] using hd'
      rw [e, State.raiseOverflow_pend, State.setInq_pend, State.setPend_pend, List.length_append, List.length_take]
      omega

/-- Removing pending packets keeps the store. -/
theorem StoreInv.setPend (h : StoreInv s) {q : List Packet} (hq : q.Sublist s.pend) : StoreInv (s.setPend q) := by
  apply h.of_fewer (s.setPend_params q)
  case hpackets => simpa using fun p hp => hp.imp_right fun hmem => hq.subset hmem
  case hinq => simp
  case hpend => exact fun d hd => hq.length_le.trans (h.pendFits d hd)

theorem StoreInv.afterTake (h : StoreInv s) (k : Pick) : StoreInv (s.afterTake k) :=
  h.drain.setPend List.eraseP_sublist

/-! ## The counter and the frames -/

/-- A `send` adds the frame of the number it answers and counts (R136, R138). -/
theorem TxInv.sendFrame (h : TxInv s) (hw : Word16) (c : Byte) {payload : Bytes} (hp : payload.length ≤ 249) :
    TxInv (s.sendFrame hw c payload) where
  frames := by
    intro f hf
    obtain hf | rfl : f ∈ s.tx ∨ f = buildFrame hw s.txSeq c payload := by simpa using hf
    · exact h.frames f hf
    · exact outboundFrame_buildFrame hw s.txSeq c hp
  numbers := by
    intro k f hf
    rw [State.sendFrame_tx, List.getElem?_append] at hf
    split at hf
    · have hn := h.numbers k f hf
      have hlen : (s.sendFrame hw c payload).tx.length - k = (s.tx.length - k) + 1 := by
        rw [State.sendFrame_tx, List.length_append, List.length_singleton]
        omega
      rw [hlen, State.sendFrame_txSeq, ← hn, BitVec.ofNat_add, BitVec.add_assoc]
      rfl
    · obtain ⟨hk, rfl⟩ : k - s.tx.length = 0 ∧ buildFrame hw s.txSeq c payload = f := by
        simpa [List.getElem?_singleton] using hf
      have hlen : (s.sendFrame hw c payload).tx.length - k = 1 := by
        rw [State.sendFrame_tx, List.length_append, List.length_singleton]
        omega
      rw [hlen, frameNumber_buildFrame]
      rfl
  answered := by simp [h.answered, Response.number]

/-! ## Routing -/

/-- A raw frame of at least seven bytes decodes to a packet that exists (R17, R91). -/
theorem decodePacket_length {raw : Bytes} (hraw : rawFrameOk raw = true) (hlong : 7 ≤ raw.length) :
    (decodePacket raw).length.toNat = 6 + (decodePacket raw).payload.length := by
  obtain ⟨len, more, rfl, hlen⟩ := rawFrameOk_iff.mp hraw
  change len.toNat = 6 + ((len :: more).drop 7).length
  rw [List.length_drop]
  rw [List.length_cons] at hlong ⊢
  omega

/-- A runt is flagged and reported (R92). -/
theorem RuntInv.runt (h : RuntInv s) {raw : Bytes} (hne : 1 ≤ raw.length) (hshort : raw.length < 7) :
    RuntInv (s.runt raw) where
  flagged := by
    have hmem : Diag.runt raw ∈ (s.runt raw).diag := by simp [State.runt]
    exact ⟨fun _ => ⟨raw, hmem⟩, fun _ => rfl⟩
  short := by
    intro f hf
    obtain hf | rfl : Diag.runt f ∈ s.diag ∨ f = raw := by simpa [State.runt] using hf
    · exact h.short f hf
    · omega

/-- Of the three outcomes only the third touches the store, and none reports a runt (R93). -/
theorem Inv.classified (h : Inv s) {p : Packet} (hp : p.length.toNat = 6 + p.payload.length) : Inv (s.classified p) where
  decoder := h.decoder.of_same (by simp) (by simp) (by simp)
  store := by
    obtain ⟨-, e⟩ | ⟨-, e⟩ | ⟨-, e⟩ := s.classified_cases p <;> rw [e]
    · exact h.store.of_same (by simp) (by simp) (by simp)
    · exact h.store.of_same (by simp) (by simp) (by simp)
    · exact h.store.enqueue hp
  tx := h.tx.of_same (by simp) (by simp) (by simp)
  runts := by
    apply h.runts.of_same (by simp)
    intro raw
    obtain ⟨-, e⟩ | ⟨-, e⟩ | ⟨-, e⟩ := s.classified_cases p <;> simp [e, State.boot, State.log]

/-- Routing a raw frame keeps the invariant (R90). -/
theorem Inv.route (h : Inv s) {raw : Bytes} (hraw : rawFrameOk raw = true) : Inv (s.route raw) := by
  obtain ⟨hshort, e⟩ | ⟨hlong, e⟩ := s.route_cases raw <;> rw [e]
  · have hne : 1 ≤ raw.length := by
      obtain ⟨len, more, rfl, -⟩ := rawFrameOk_iff.mp hraw
      simp
    exact {
      decoder := h.decoder.of_same (by simp) (by simp) (by simp)
      store := h.store.of_same (by simp) (by simp) (by simp)
      tx := h.tx.of_same (by simp) (by simp) (by simp)
      runts := h.runts.runt hne hshort }
  · exact h.classified (decodePacket_length hraw hlong)

/-! ## Reception -/

/-- Writing the decoder's registers leaves the other parts alone. -/
theorem Inv.setDecoder (h : Inv s) {st : RxState} {buf : Bytes} {len : Option Byte}
    (hd : DecoderInv (s.setDecoder st buf len)) : Inv (s.setDecoder st buf len) where
  decoder := hd
  store := h.store.of_same rfl rfl rfl
  tx := h.tx.of_same rfl rfl rfl
  runts := h.runts.of_same rfl (fun _ => Iff.rfl)

/-- With nothing collected the decoder's invariant holds, wherever it stands. -/
theorem DecoderInv.of_empty (hbuf : s.rxBuf = []) (hlen : s.rxLen = none) : DecoderInv s where
  hunting _ := ⟨hbuf, hlen⟩
  unset _ := hlen
  collecting h := absurd hbuf h

theorem Inv.resetDecoder (h : Inv s) : Inv s.resetDecoder := h.setDecoder (.of_empty rfl rfl)

/-- An append leaves a buffer with a first byte, which is the length byte (R13, R75). -/
theorem DecoderInv.append_eq_cons (h : DecoderInv s) (b : Byte) : ∃ len more, s.rxBuf ++ [b] = len :: more ∧
    s.rxBuf.length = more.length ∧ s.lenAfter b = some len ∧ more.length ≤ len.toNat := by
  unfold State.lenAfter
  cases hb : s.rxBuf with
  | nil => exact ⟨b, [], rfl, rfl, rfl, Nat.zero_le _⟩
  | cons x xs =>
    obtain ⟨len, hlen, hhead, hfits⟩ := h.collecting (by simp [hb])
    obtain rfl : x = len := by simpa [hb] using hhead
    exact ⟨x, xs ++ [b], rfl, by simp, by simp [hlen], by simpa [hb] using hfits⟩

/-- Under the decoder's invariant the completion test is on the buffer alone: it has become a raw frame (R51, R76). -/
theorem DecoderInv.completes_iff (h : DecoderInv s) (b : Byte) :
    s.completes b = true ↔ rawFrameOk (s.rxBuf ++ [b]) = true := by
  obtain ⟨len, more, hbuf, hlength, hlen, -⟩ := h.append_eq_cons b
  rw [s.completes_iff, hbuf, hlen, hlength, rawFrameOk_iff]
  simp

/-- A byte that does not complete the frame leaves it within its length (R75). -/
theorem DecoderInv.collected (h : DecoderInv s) (hs : s.rxState = .inFrame) {b : Byte} (hmore : s.completes b = false) :
    DecoderInv (s.setDecoder s.rxState (s.rxBuf ++ [b]) (s.lenAfter b)) := by
  obtain ⟨len, more, hbuf, -, hlen, hle⟩ := h.append_eq_cons b
  have hnot : more.length ≠ len.toNat := by
    rw [Bool.eq_false_iff, ne_eq, h.completes_iff, hbuf] at hmore
    simpa [rawFrameOk] using hmore
  rw [hbuf, hlen]
  exact {
    hunting := fun hne => absurd hs hne
    unset := fun hnil => absurd hnil (List.cons_ne_nil len more)
    collecting := fun _ => ⟨len, rfl, rfl, lt_of_le_of_ne hle hnot⟩ }

/-- In a frame, a byte completes it or is collected (R75, R76). -/
theorem Inv.collect (h : Inv s) (hs : s.rxState = .inFrame) (b : Byte) : Inv (s.collect b) := by
  obtain ⟨hdone, e⟩ | ⟨hmore, e⟩ := s.collect_cases b <;> rw [e]
  · exact h.resetDecoder.route ((h.decoder.completes_iff b).mp hdone)
  · exact h.setDecoder (h.decoder.collected hs hmore)

/-- Outside a frame nothing is collected, before the byte and after it (R71 to R74). -/
theorem Inv.hunted (h : Inv s) (hs : s.rxState ≠ .inFrame) (b : Byte) : Inv (s.rxByte b) := by
  obtain ⟨hbuf, hlen⟩ := h.decoder.hunting hs
  have hnoise : Inv (s.reportNoise b) := {
    decoder := .of_empty hbuf hlen
    store := h.store.of_same (by simp) (by simp) (by simp)
    tx := h.tx.of_same (by simp) (by simp) (by simp)
    runts := h.runts.of_same (by simp) (by simp [State.reportNoise]) }
  obtain ⟨-, -, e⟩ | ⟨-, -, e⟩ | ⟨-, -, e⟩ | ⟨-, -, e⟩ | ⟨hin, -⟩ := s.rxByte_cases b
  · rw [e]
    exact h.setDecoder (.of_empty hbuf hlen)
  · rwa [e]
  · rw [e]
    exact h.setDecoder (.of_empty rfl rfl)
  · rwa [e]
  · exact absurd hin hs

theorem Inv.rxByte (h : Inv s) (b : Byte) : Inv (s.rxByte b) := by
  by_cases hs : s.rxState = .inFrame
  · rw [State.rxByte_inFrame hs]
    exact h.collect hs b
  · exact h.hunted hs b

/-! ## The other operations -/

/-- What no part looks at may change (R21). -/
theorem Inv.of_same (h : Inv s) (hdecoder : t.rxState = s.rxState ∧ t.rxBuf = s.rxBuf ∧ t.rxLen = s.rxLen)
    (hstore : t.params = s.params ∧ t.inq = s.inq ∧ t.pend = s.pend)
    (htx : t.txSeq = s.txSeq ∧ t.tx = s.tx ∧
      t.responses.filterMap Response.number = s.responses.filterMap Response.number)
    (hrunts : t.faultRunt = s.faultRunt ∧ t.diag = s.diag) : Inv t := by
  obtain ⟨hst, hbuf, hlen⟩ := hdecoder
  obtain ⟨hpar, hinq, hpend⟩ := hstore
  obtain ⟨hseq, hframes, hresp⟩ := htx
  obtain ⟨hflag, hdiag⟩ := hrunts
  exact ⟨h.decoder.of_same hst hbuf hlen, h.store.of_same hpar hinq hpend, h.tx.of_same hseq hframes hresp,
    h.runts.of_same hflag (by simp [hdiag])⟩

theorem Inv.setRequests (h : Inv s) (r : List Instr) : Inv (s.setRequests r) :=
  h.of_same (by simp) (by simp) (by simp) (by simp)

theorem Inv.respond (h : Inv s) {r : Response} (hr : r.number = none) : Inv (s.respond r) :=
  h.of_same (by simp) (by simp) (by simp [hr]) (by simp)

theorem Inv.afterDeadlineAnswer (h : Inv s) : Inv s.afterDeadlineAnswer :=
  h.of_same (by simp) (by simp) (by simp) (by simp)

/-- An operation that writes the store alone. -/
theorem Inv.of_store (h : Inv s) (hstore : StoreInv t)
    (hdecoder : t.rxState = s.rxState ∧ t.rxBuf = s.rxBuf ∧ t.rxLen = s.rxLen)
    (htx : t.txSeq = s.txSeq ∧ t.tx = s.tx ∧ t.responses = s.responses)
    (hrunts : t.faultRunt = s.faultRunt ∧ t.diag = s.diag) : Inv t := by
  obtain ⟨hst, hbuf, hlen⟩ := hdecoder
  obtain ⟨hseq, hframes, hresp⟩ := htx
  obtain ⟨hflag, hdiag⟩ := hrunts
  exact ⟨h.decoder.of_same hst hbuf hlen, hstore, h.tx.of_same hseq hframes (by rw [hresp]),
    h.runts.of_same hflag (by simp [hdiag])⟩

theorem Inv.enqueue (h : Inv s) {p : Packet} (hp : p.length.toNat = 6 + p.payload.length) : Inv (s.enqueue p) :=
  h.of_store (h.store.enqueue hp) (by simp) (by simp) (by simp)

theorem Inv.drain (h : Inv s) : Inv s.drain := h.of_store h.store.drain (by simp) (by simp) (by simp)

theorem Inv.setPend (h : Inv s) {q : List Packet} (hq : q.Sublist s.pend) : Inv (s.setPend q) :=
  h.of_store (h.store.setPend hq) (by simp) (by simp) (by simp)

theorem Inv.afterTake (h : Inv s) (k : Pick) : Inv (s.afterTake k) := h.drain.setPend List.eraseP_sublist

/-- The response of a take is no sequence number (R113). -/
theorem State.number_takeResponse (s : State) (k : Pick) : (s.takeResponse k).number = none := by
  unfold State.takeResponse
  split <;> rfl

/-! ## Every step -/

theorem Inv.of_receptionEffect {i : Instr} (h : Inv s) (hw : i.wellFormed = true) (he : ReceptionEffect s i t) :
    Inv t := by
  cases he with
  | lost => exact h
  | hunted b hs => exact h.hunted hs b
  | collected b hs _ => exact h.collect hs b
  | framed raw _ => exact State.rxBytes_keeps (fun _ b hu => hu.rxByte b) _ s h
  | reset _ => exact h.resetDecoder
  | routed raw hi =>
    have hraw : rawFrameOk raw = true := by
      rcases hi with rfl | rfl | rfl
      · exact hw
      · exact (Bool.and_eq_true_iff.mp hw).1
      · exact (Bool.and_eq_true_iff.mp hw).1
    exact h.route hraw
  | classified p hi =>
    have hp : p.ok = true := by rcases hi with rfl | rfl | rfl <;> exact hw
    exact h.classified (by simpa [Packet.ok] using hp)
  | enqueued p hi =>
    subst hi
    exact h.enqueue (by simpa [Instr.wellFormed, Packet.ok] using hw)

theorem Inv.of_storeEffect {i : Instr} (h : Inv s) (he : StoreEffect s i t) : Inv t := by
  cases he with
  | drained _ => exact h.drain.respond rfl
  | taken k => exact (h.afterTake k).respond (s.number_takeResponse k)
  | polled k =>
    obtain ⟨p, -, e⟩ | ⟨-, -, e⟩ | ⟨n, -, -, e⟩ := s.poll_cases k i <;> rw [e]
    · exact (h.afterTake k).respond rfl
    · exact h.drain.afterDeadlineAnswer.respond rfl
    · exact h.drain.afterDeadlineAnswer.setRequests _
  | cleaned cmd => exact h.drain.setPend List.filter_sublist

theorem Inv.of_sessionEffect {i : Instr} (h : Inv s) (he : SessionEffect s i t) : Inv t := by
  cases he with
  | opened _ _ =>
    refine h.of_same (by simp) (by simp) ⟨by simp, by simp, ?_⟩ (by simp)
    obtain ⟨-, e⟩ | ⟨-, e⟩ := s.openFirst_cases <;> simp [e, Response.number]
  | openedAgain _ =>
    rw [s.openAgain_cases]
    exact h.respond (by split <;> rfl)
  | closed _ =>
    have hclosing : Inv ((s.setConnected false).callTransport .closing) :=
      h.of_same (by simp) (by simp) (by simp) (by simp)
    obtain e | e := ((s.setConnected false).callTransport .closing).closeDecoder_cases <;> rw [e]
    · exact hclosing.resetDecoder.respond rfl
    · exact hclosing.respond rfl
  | closedAgain _ => exact h.respond rfl
  | disconnected _ => exact h.resetDecoder.of_same (by simp) (by simp) (by simp) (by simp)
  | sent hw c payload _ hp _ =>
    exact {
      decoder := h.decoder.of_same (by simp) (by simp) (by simp)
      store := h.store.of_same (by simp) (by simp) (by simp)
      tx := h.tx.sendFrame hw c hp
      runts := h.runts.of_same (by simp) (by simp) }
  | sendFailed e => exact h.respond rfl

/-- Every well-formed instruction keeps the invariant. -/
theorem Inv.exec {i : Instr} (h : Inv s) (hw : i.wellFormed = true) (he : exec i s = .next t) : Inv t := by
  rcases effect_of_exec he with hr | hst | hse
  · exact h.of_receptionEffect hw hr
  · exact h.of_storeEffect hst
  · exact h.of_sessionEffect hse

/-- Settles O3: a step waits or runs a well-formed request, whose effect keeps each part of the invariant. -/
theorem everyStepKeepsTheInvariant : Obligations.EveryStepKeepsTheInvariant := by
  intro s t h hstep
  obtain ⟨-, rfl⟩ | ⟨i, rest, -, hw, he⟩ := step_next_cases hstep
  · exact h
  · exact (h.setRequests rest).exec hw he

/-- Settles O2: at construction nothing is collected, stored, written or reported. -/
theorem constructionMeetsTheInvariant : Obligations.ConstructionMeetsTheInvariant := by
  have h : ∀ (c : Params) (seed : Word16), Inv (State.construct c seed) := fun c seed => {
    decoder := .of_empty rfl rfl
    store := by constructor <;> simp [State.construct]
    tx := by constructor <;> simp [State.construct]
    runts := by constructor <;> simp [State.construct] }
  exact ⟨h, h Config.params Config.seed⟩

end Sys2Proof.Machine
end

section
/-! SUPPORT. FrameDecoder on whole streams (spec/40_frame_decoder.md R80): a run of arriving bytes, a frame from Idle, quiet
noise, and frames between noise. -/

namespace Sys2Proof.Machine

variable {s : State}

/-! ## A run of arriving bytes -/

theorem State.receiving_eq (s : State) (stream : Bytes) : s.receiving stream = s.setRequests (stream.map .rxByte) := rfl

/-- The first byte of a stream is one step, and the rest of the stream is then what comes (R34). -/
theorem step_receiving (s : State) (b : Byte) (stream : Bytes) :
    step (s.receiving (b :: stream)) = .next ((if s.connected then s.rxByte b else s).receiving stream) := by
  have hstep : step (s.receiving (b :: stream)) = exec (.rxByte b) (s.receiving stream) :=
    step_of_request (rest := stream.map .rxByte) rfl rfl
  rw [hstep, exec_rxByte, State.receiving_eq, State.setRequests_connected, State.rxByte_setRequests]
  split <;> rfl

/-- A run over a stream of a connected session is `rx_byte` of each byte, in order. -/
theorem run_receiving (stream : Bytes) (hc : s.connected = true) :
    core.run stream.length (s.receiving stream) = .next ((s.setRequests []).rxBytes stream) := by
  induction stream generalizing s with
  | nil => rfl
  | cons b stream ih =>
    rw [List.length_cons, run_succ_of_next _ (step_receiving s b stream), if_pos hc, ih (by simpa using hc)]
    rw [State.rxBytes, State.rxByte_setRequests]

/-- A run over a stream of a session that is not connected does nothing (R141). -/
theorem run_receiving_of_closed (stream : Bytes) (hc : s.connected = false) :
    core.run stream.length (s.receiving stream) = .next (s.setRequests []) := by
  induction stream with
  | nil => rfl
  | cons b stream ih =>
    rw [List.length_cons, run_succ_of_next _ (step_receiving s b stream), if_neg (by simp [hc]), ih]

/-- Settles O18: the run takes the bytes one by one, which is what `frame.rx` does in its one step. -/
theorem frameIsItsBytesInOrder : Obligations.FrameIsItsBytesInOrder := by
  intro s raw
  refine ⟨_, exec_frameRx (s.setRequests []) raw, ?_⟩
  have hlen : raw.length + 2 = (marker0 :: marker1 :: raw).length := rfl
  rw [hlen, State.setRequests_connected]
  cases hc : s.connected with
  | true => exact run_receiving _ hc
  | false => exact run_receiving_of_closed _ hc

/-! ## A frame from Idle -/

/-- The decoder in Idle with nothing collected, in a session that receives. -/
structure Ready (s : State) : Prop where
  connected : s.connected = true
  state : s.rxState = .idle
  buffer : s.rxBuf = []
  length : s.rxLen = none

/-- Resetting a decoder that has nothing collected changes nothing. -/
theorem Ready.resetDecoder_eq (h : Ready s) : s.resetDecoder = s := by
  cases s
  obtain ⟨-, rfl, rfl, rfl⟩ := h
  rfl

/-- The bytes still missing of a frame complete it with the last of them, and the whole buffer is routed (R75, R76). -/
theorem State.rxBytes_inFrame {len : Byte} {more : Bytes} (hmore : more.length = len.toNat) :
    ∀ (missing : Bytes) (s : State), missing ≠ [] → s.rxState = .inFrame → DecoderInv s →
      s.rxBuf ++ missing = len :: more → s.rxBytes missing = s.resetDecoder.route (len :: more)
  | [], _, hne, _, _, _ => absurd rfl hne
  | [b], s, _, hs, hinv, hbuf => by
    have hdone : s.completes b = true := by
      rw [hinv.completes_iff, hbuf]
      exact rawFrameOk_iff.mpr ⟨len, more, rfl, hmore⟩
    rw [State.rxBytes, State.rxBytes, State.rxByte_inFrame hs, State.collect_of_completes hdone,
      State.completeFrame, hbuf]
  | b :: c :: missing, s, _, hs, hinv, hbuf => by
    have hbuf' : (s.rxBuf ++ [b]) ++ c :: missing = len :: more := by simpa using hbuf
    have hopen : s.completes b = false := by
      obtain ⟨len', more', hcons, -⟩ := hinv.append_eq_cons b
      rw [hcons] at hbuf'
      obtain ⟨rfl, hrest⟩ : len' = len ∧ more' ++ c :: missing = more := by simpa using hbuf'
      rw [Bool.eq_false_iff, ne_eq, hinv.completes_iff, hcons]
      have hshort : more'.length < more.length := by simp [← hrest]
      simpa [rawFrameOk] using (hshort.trans_eq hmore).ne
    have hcollect : s.rxByte b = s.setDecoder s.rxState (s.rxBuf ++ [b]) (s.lenAfter b) := by
      rw [State.rxByte_inFrame hs, State.collect_of_not_completes hopen]
    rw [State.rxBytes, hcollect]
    exact State.rxBytes_inFrame hmore (c :: missing) (s.setDecoder s.rxState (s.rxBuf ++ [b]) (s.lenAfter b))
      (by simp) hs (hinv.collected hs hopen) hbuf'

/-- A whole frame from Idle is routed, whatever its length byte and its contents (R80). -/
theorem Ready.rxBytes_frame (h : Ready s) {raw : Bytes} (hraw : rawFrameOk raw = true) :
    s.rxBytes (marker0 :: marker1 :: raw) = s.route raw := by
  obtain ⟨len, more, rfl, hlen⟩ := rawFrameOk_iff.mp hraw
  have hmarker1 : s.acceptMarker0.rxByte marker1 = s.acceptMarker0.acceptMarker1 := State.rxByte_marker1_of_saw rfl
  rw [State.rxBytes, State.rxByte_idleMarker0 h.state, State.rxBytes, hmarker1,
    State.rxBytes_inFrame hlen (len :: more) _ (by simp) rfl (.of_empty rfl rfl) rfl]
  exact congrArg (·.route (len :: more)) h.resetDecoder_eq

theorem Ready.route (h : Ready s) (raw : Bytes) : Ready (s.route raw) :=
  ⟨by simp [h.connected], by simp [h.state], by simp [h.buffer], by simp [h.length]⟩

/-- Settles O19: `frame.rx` is the bytes of the frame, which from Idle complete once and are routed. -/
theorem frameFromIdleIsRoutedOnce : Obligations.FrameFromIdleIsRoutedOnce := by
  intro s raw hc hs hbuf hlen hraw
  have h : Ready s := ⟨hc, hs, hbuf, hlen⟩
  refine ⟨_, exec_route s raw, ?_⟩
  rw [exec_frameRx, if_pos hc, h.rxBytes_frame hraw]

/-! ## Quiet noise -/

/-- The state with these events reported after its own. -/
def State.reporting (s : State) (events : List Diag) : State := { s with diag := s.diag ++ events }

@[simp] theorem State.reporting_nil (s : State) : s.reporting [] = s := by simp [State.reporting]

@[simp] theorem State.reporting_reporting (s : State) (xs ys : List Diag) :
    (s.reporting xs).reporting ys = s.reporting (xs ++ ys) := by
  simp [State.reporting]

theorem Ready.reporting (h : Ready s) (events : List Diag) : Ready (s.reporting events) :=
  ⟨h.connected, h.state, h.buffer, h.length⟩

/-- In Idle a noise byte is reported and the decoder stays there (R71). -/
theorem Ready.rxByte_noise (h : Ready s) {b : Byte} (hb : b ≠ marker0) : s.rxByte b = s.reporting [.noise b] := by
  rw [State.rxByte_idleNoise h.state hb, State.reportNoise, State.setRxState, ← h.state]
  rfl

/-- A first marker byte with no second one after it: the byte after it is reported, the marker byte is not (R73). -/
theorem Ready.rxBytes_failed (h : Ready s) {c : Byte} (hc : c ≠ marker1) :
    (s.rxByte marker0).rxByte c = s.reporting [.noise c] := by
  rw [State.rxByte_idleMarker0 h.state, State.rxByte_sawFail rfl hc, State.reportNoise, State.acceptMarker0,
    State.setRxState, State.setRxState, ← h.state]
  rfl

/-- Quiet noise is reported as R80 says, and the decoder is where it was. -/
theorem Ready.rxBytes_noise {noise : Bytes} {events : List Diag} (hquiet : quietNoise noise = some events)
    (h : Ready s) : s.rxBytes noise = s.reporting events := by
  induction noise using quietNoise.induct generalizing s events with
  | case1 =>
    cases hquiet
    simp [State.rxBytes]
  | case2 => simp [quietNoise] at hquiet
  | case3 b hb =>
    obtain rfl : [Diag.noise b] = events := by simpa [quietNoise, hb] using hquiet
    exact h.rxByte_noise hb
  | case4 rest => simp [quietNoise] at hquiet
  | case5 c rest hc ih =>
    obtain ⟨later, hlater, rfl⟩ : ∃ later, quietNoise rest = some later ∧ Diag.noise c :: later = events := by
      simpa [quietNoise, hc] using hquiet
    change ((s.rxByte marker0).rxByte c).rxBytes rest = _
    rw [h.rxBytes_failed hc, ih hlater (h.reporting _), State.reporting_reporting]
    rfl
  | case6 b c rest hb ih =>
    obtain ⟨later, hlater, rfl⟩ : ∃ later, quietNoise (c :: rest) = some later ∧ Diag.noise b :: later = events := by
      simpa [quietNoise, hb] using hquiet
    rw [State.rxBytes, h.rxByte_noise hb, ih hlater (h.reporting _), State.reporting_reporting]
    rfl

/-! ## Frames between noise -/

/-- A stream of noise and frames is what R80 says it is: the decoder is Ready again after the last frame. -/
theorem Ready.rxBytes_pieces (h : Ready s) {pieces : List (Bytes × List Diag × Bytes)}
    (hpieces : ∀ w ∈ pieces, quietNoise w.1 = some w.2.1 ∧ rawFrameOk w.2.2 = true) :
    ∃ t, routedStream s (pieces.map Prod.snd) = .next t ∧ Ready t ∧
      s.rxBytes (pieces.flatMap fun w => w.1 ++ marker0 :: marker1 :: w.2.2) = t := by
  induction pieces generalizing s with
  | nil => exact ⟨s, rfl, h, rfl⟩
  | cons w pieces ih =>
    obtain ⟨⟨hquiet, hraw⟩, hrest⟩ := List.forall_mem_cons.mp hpieces
    have hready : Ready (s.reporting w.2.1) := h.reporting w.2.1
    obtain ⟨t, hrouted, ht, hbytes⟩ := ih (hready.route w.2.2) hrest
    refine ⟨t, hrouted, ht, ?_⟩
    rw [List.flatMap_cons, State.rxBytes_append, State.rxBytes_append, h.rxBytes_noise hquiet,
      hready.rxBytes_frame hraw, hbytes]

/-- Settles O20: by induction on the pieces of the stream, each noise piece is reported and each frame routed from Idle; the
noise after the last frame is reported too. -/
theorem streamIsFramedWithoutLoss : Obligations.StreamIsFramedWithoutLoss := by
  intro s pieces last lastNoise hc hs hbuf hlen hpieces hlast
  have h : Ready (s.setRequests []) := ⟨hc, hs, hbuf, hlen⟩
  obtain ⟨t, hrouted, ht, hbytes⟩ := h.rxBytes_pieces hpieces
  refine ⟨t, hrouted, ht.state, ht.buffer, ?_⟩
  rintro stream rfl
  have hstream : (s.setRequests []).rxBytes
      (pieces.flatMap (fun w => w.1 ++ marker0 :: marker1 :: w.2.2) ++ last) = t.reporting lastNoise := by
    rw [State.rxBytes_append, hbytes, ht.rxBytes_noise hlast]
  exact (run_receiving _ hc).trans (congrArg _ hstream)

/-! ## What `send` writes, received -/

/-- Of the outcomes of a decoded packet none reports noise (R93 to R96). -/
theorem State.noise_mem_classified {p : Packet} {b : Byte} (h : Diag.noise b ∈ (s.classified p).diag) :
    Diag.noise b ∈ s.diag := by
  obtain ⟨-, e⟩ | ⟨-, e⟩ | ⟨-, e⟩ := s.classified_cases p <;> rw [e] at h
  · simpa [State.boot] using h
  · simpa [State.log] using h
  · simpa using h

/-- Settles O47: the frame is a raw frame behind its marker, so from Idle it is routed once; it is no runt, and its packet has
the fields of `build`. -/
theorem sentFrameComesBackWhole : Obligations.SentFrameComesBackWhole := by
  intro s u r h c payload frame hconn hp hsend htx hc hs hbuf hlen
  have hframe : frame = marker0 :: marker1 :: rawOf h s.txSeq c payload := by
    obtain rfl : s.sendFrame h c payload = u := by simpa [exec_send_of_fits h c hconn hp] using hsend
    rw [← buildFrame_eq]
    simpa using htx.symm
  subst hframe
  have hready : Ready (r.setRequests []) := ⟨hc, hs, hbuf, hlen⟩
  have hlong : 7 ≤ (rawOf h s.txSeq c payload).length := by simp
  have hrouted : (r.setRequests []).rxBytes (marker0 :: marker1 :: rawOf h s.txSeq c payload) =
      (r.setRequests []).classified (decodePacket (rawOf h s.txSeq c payload)) := by
    rw [hready.rxBytes_frame (rawFrameOk_rawOf h s.txSeq c hp), State.route_of_long hlong]
  refine ⟨_, (run_receiving _ hc).trans (congrArg _ hrouted), ?row, ?fields, ?state, ?buffer, ?runt, ?noise⟩
  case row => exact branch_eq_next.mpr ⟨decide_eq_true hlong, rfl⟩
  case fields => exact decodePacket_rawOf h s.txSeq c payload
  case state => simp [hs]
  case buffer => simp [hbuf]
  case runt => simp
  case noise => exact fun b hb => State.noise_mem_classified (s := r.setRequests []) hb

end Sys2Proof.Machine
end

section
/-! SUPPORT. FrameDecoder, row by row (spec/40_frame_decoder.md R70 to R81): each row where its dispatch selects it, and
`rx_byte` as the row of the byte's class. -/

namespace Sys2Proof.Machine

variable {s : State} {b : Byte}

/-! ## The row of a byte's class -/

theorem State.lenAfter_eq (s : State) (b : Byte) : s.lenAfter b = if s.rxBuf = [] then some b else s.rxLen := by
  simp [State.lenAfter]

/-- The row of a byte's class is an operation of the block, wherever the byte meets the decoder (R54). -/
theorem wellFormed_classRow (p : Place) (b : Byte) : (classRow (byteClass p b) b).wellFormed = true := by
  cases hclass : byteClass p b <;> simp at hclass <;> simp [classRow, Instr.wellFormed, hclass]

/-- The row of a byte's class is selected, and is `rx_byte` of the byte (R70). -/
theorem exec_classRow (hc : s.connected = true) : exec (classRow (byteClass s.place b) b) s = .next (s.rxByte b) := by
  have hselected {c : ByteClass} (hclass : byteClass s.place b = c) : s.selects c b = true :=
    State.selects_iff.mpr ⟨hc, hclass⟩
  cases hclass : byteClass s.place b with
  | idleMarker0 =>
    obtain ⟨hs, rfl⟩ : s.rxState = .idle ∧ b = marker0 := by simpa using hclass
    exact branch_eq_next.mpr ⟨hselected hclass, (State.rxByte_idleMarker0 hs).symm⟩
  | idleNoise =>
    obtain ⟨hs, hb⟩ : s.rxState = .idle ∧ b ≠ marker0 := by simpa using hclass
    exact branch_eq_next.mpr ⟨hselected hclass, (State.rxByte_idleNoise hs hb).symm⟩
  | sawMarker1 =>
    obtain ⟨hs, rfl⟩ : s.rxState = .sawFirstMarker ∧ b = marker1 := by simpa using hclass
    exact exec_rxByteSawMarker1_of_saw hc hs |>.trans (congrArg _ (State.rxByte_marker1_of_saw hs).symm)
  | sawFail =>
    obtain ⟨hs, hb⟩ : s.rxState = .sawFirstMarker ∧ b ≠ marker1 := by simpa using hclass
    exact branch_eq_next.mpr ⟨hselected hclass, (State.rxByte_sawFail hs hb).symm⟩
  | inframeLength =>
    obtain ⟨hs, -⟩ : s.rxState = .inFrame ∧ s.rxBuf = [] := by simpa using hclass
    exact branch_eq_next.mpr ⟨hselected hclass, (State.rxByte_inFrame hs).symm⟩
  | inframeBody =>
    obtain ⟨hs, -⟩ : s.rxState = .inFrame ∧ s.rxBuf ≠ [] := by simpa using hclass
    exact branch_eq_next.mpr ⟨hselected hclass, (State.rxByte_inFrame hs).symm⟩

/-- Settles O8: decoding gives the row of the byte's class, which is the one whose step exists. -/
theorem decodedRowIsTheStepTaken : Obligations.DecodedRowIsTheStepTaken := by
  intro s b i hc hdecode
  obtain rfl : classRow (byteClass s.place b) b = i := by simpa [decode, decodeByte] using hdecode
  rw [exec_classRow hc, exec_rxByte_of_connected b hc]
  exact ⟨wellFormed_classRow s.place b, rfl, _, rfl⟩

/-! ## The rows where they are selected -/

/-- The completing byte, as a condition on the length byte and the count (R76). -/
theorem State.completes_iff_of_len (b : Byte) : s.completes b = true ↔
    ∃ len, (if s.rxBuf = [] then some b else s.rxLen) = some len ∧ s.rxBuf.length = len.toNat := by
  rw [s.completes_iff, s.lenAfter_eq]

theorem exec_rxByteInframeLength_of_empty (b : Byte) (hc : s.connected = true) (hs : s.rxState = .inFrame)
    (hbuf : s.rxBuf = []) : exec (.rxByteInframeLength b) s = .next (s.collect b) :=
  branch_eq_next.mpr ⟨State.selects_iff.mpr ⟨hc, by simp [hs, hbuf]⟩, rfl⟩

theorem exec_rxByteInframeBody_of_nonempty (b : Byte) (hc : s.connected = true) (hs : s.rxState = .inFrame)
    (hbuf : s.rxBuf ≠ []) : exec (.rxByteInframeBody b) s = .next (s.collect b) :=
  branch_eq_next.mpr ⟨State.selects_iff.mpr ⟨hc, by simp [hs, hbuf]⟩, rfl⟩

theorem exec_rxByteInframeComplete_of_completes (hc : s.connected = true) (hs : s.rxState = .inFrame)
    (hdone : s.completes b = true) : exec (.rxByteInframeComplete b) s = .next (s.completeFrame b) :=
  branch_eq_next.mpr ⟨selects_complete_iff.mpr ⟨hc, hs, hdone⟩, rfl⟩

/-- A noise byte leaves the decoder in Idle and is reported (R71, R73). -/
theorem State.reportNoise_eq (s : State) (b : Byte) :
    s.reportNoise b = { s with rxState := .idle, diag := s.diag ++ [.noise b] } := rfl

/-- In Idle the decoder stays where it is. -/
theorem State.reportNoise_of_idle (hs : s.rxState = .idle) (b : Byte) :
    s.reportNoise b = { s with diag := s.diag ++ [.noise b] } := by
  rw [State.reportNoise_eq, ← hs]

/-- Settles O9: row by row, from the operation that `rx_byte` is in the place; under R14 the completion test is on the length
of the collected bytes alone. -/
theorem rxByteFollowsTheTransitionTable : Obligations.RxByteFollowsTheTransitionTable := by
  intro s b hc hinv
  rw [exec_rxByte_of_connected b hc]
  refine ⟨?marker0, ?noise, ?marker1, ?fail, ?frame⟩
  case marker0 =>
    rintro hs rfl
    exact congrArg _ (State.rxByte_idleMarker0 hs)
  case noise =>
    intro hs hb
    rw [State.rxByte_idleNoise hs hb, State.reportNoise_of_idle hs]
  case marker1 =>
    rintro hs rfl
    exact congrArg _ (State.rxByte_marker1_of_saw hs)
  case fail =>
    intro hs hb
    exact congrArg _ (State.rxByte_sawFail hs hb)
  case frame =>
    intro hs len more hbuf
    have hdone : s.completes b = true ↔ more.length = len.toNat := by
      rw [hinv.completes_iff, hbuf]
      simp [rawFrameOk]
    rw [State.rxByte_inFrame hs]
    constructor
    · intro hlen
      rw [State.collect_of_completes (hdone.mpr hlen), State.completeFrame, hbuf]
      exact ⟨_, rfl, rfl⟩
    · intro hlen
      have hopen : s.completes b = false := Bool.eq_false_iff.mpr fun h => hlen (hdone.mp h)
      obtain ⟨len', more', hcons, -, hlen', -⟩ := hinv.append_eq_cons b
      obtain ⟨rfl, -⟩ : len' = len ∧ more' = more := by simpa [hbuf, eq_comm] using hcons
      rw [State.collect_of_not_completes hopen, hbuf, hlen']
      rfl

/-- Settles O16: a branch row answers noStep exactly where its condition of selection fails, and that condition is the one
stated. -/
theorem unselectedBranchHasNoStep : Obligations.UnselectedBranchHasNoStep := by
  intro s b raw h n
  have hstuck {c : Bool} {t : State} {P : Prop} (hP : c = true ↔ P) : branch c t = .fault .noStep ↔ ¬P := by
    rw [branch_eq_noStep, ← hP, Bool.not_eq_true]
  refine ⟨hstuck ?_, hstuck ?_, hstuck ?_, hstuck ?_, hstuck ?_, hstuck ?_, hstuck ?_, hstuck ?_, hstuck ?_, hstuck ?_⟩
  · simp [State.selects_iff]
  · simp [State.selects_iff, marker0]
  · simp [State.selects_iff]
  · simp [State.selects_iff, marker1]
  · simp [State.selects_iff]
  · simp [State.selects_iff]
  · rw [selects_complete_iff, State.completes_iff_of_len]
  · simp
  · simp
  · have hfits : raw.length ≤ 249 ↔ 6 + raw.length ≤ 255 := by omega
    rw [selects_frameTx_iff, hfits]

/-- Settles O10: neither `rx_byte` nor `frame.rx` looks at the byte or the frame of a session that is not connected. -/
theorem bytesAreLostWhileNotConnected : Obligations.BytesAreLostWhileNotConnected := by
  intro s b raw hc
  rw [exec_rxByte, exec_frameRx, if_neg (by simp [hc]), if_neg (by simp [hc])]
  exact ⟨rfl, rfl⟩

/-- Settles O11: in Idle the row is selected, and it writes RX_STATE alone. -/
theorem firstMarkerIsHeldUnreported : Obligations.FirstMarkerIsHeldUnreported := by
  intro s hc hs
  exact branch_eq_next.mpr ⟨State.selects_iff.mpr ⟨hc, by simp [hs]⟩, rfl⟩

/-- Settles O13: each row is selected in its place for its bytes, and reports the byte from Idle. -/
theorem noiseIsReportedAndDropped : Obligations.NoiseIsReportedAndDropped := by
  intro s b hc
  constructor
  · intro hs hb
    rw [← State.reportNoise_of_idle hs]
    exact branch_eq_next.mpr ⟨State.selects_iff.mpr ⟨hc, by simpa [hs, marker0] using hb⟩, rfl⟩
  · intro hs hb
    exact branch_eq_next.mpr ⟨State.selects_iff.mpr ⟨hc, by simpa [hs, marker1] using hb⟩, rfl⟩

/-- Settles O14: the first byte completes the frame only if it is 0, a later one only with the count at the length byte. -/
theorem inFrameBytesAreCollected : Obligations.InFrameBytesAreCollected := by
  intro s b hc hs
  constructor
  · intro hbuf hb
    have hopen : s.completes b = false := by
      rw [Bool.eq_false_iff, ne_eq, State.completes_iff_of_len]
      rintro ⟨len, hlen, hcount⟩
      obtain rfl : b = len := by simpa [hbuf] using hlen
      exact hb (BitVec.eq_of_toNat_eq (by simpa [hbuf] using hcount.symm))
    rw [exec_rxByteInframeLength_of_empty b hc hs hbuf, State.collect_of_not_completes hopen, s.lenAfter_eq,
      if_pos hbuf, hbuf]
    rfl
  · intro len hbuf hlen hcount
    have hopen : s.completes b = false := by
      rw [Bool.eq_false_iff, ne_eq, State.completes_iff_of_len]
      simpa [hbuf, hlen] using hcount
    rw [exec_rxByteInframeBody_of_nonempty b hc hs hbuf, State.collect_of_not_completes hopen, s.lenAfter_eq,
      if_neg hbuf]
    rfl

/-- Settles O15: the condition is the completion test, so the completion row and the length or body row all route the whole
buffer from a decoder that has forgotten it. -/
theorem completedFrameIsRouted : Obligations.CompletedFrameIsRouted := by
  intro s b len hc hs hlen hcount
  have hdone : s.completes b = true := (State.completes_iff_of_len b).mpr ⟨len, hlen, hcount⟩
  refine ⟨s.completeFrame b, rfl, exec_rxByteInframeComplete_of_completes hc hs hdone, ?length, ?body⟩
  case length =>
    intro hbuf
    rw [exec_rxByteInframeLength_of_empty b hc hs hbuf, State.collect_of_completes hdone]
  case body =>
    intro hbuf
    rw [exec_rxByteInframeBody_of_nonempty b hc hs hbuf, State.collect_of_completes hdone]

/-- Settles O17: `reset` writes the decoder's three registers and nothing else. -/
theorem resetForgetsThePartialFrame : Obligations.ResetForgetsThePartialFrame := exec_reset

end Sys2Proof.Machine
end

section
/-! SUPPORT. PacketRouter: the branches of `route` (spec/41_packet_router.md R90 to R96) and the fields of a packet. -/

namespace Sys2Proof.Machine

/-! ## Routing -/

/-- A packet takes the row of its class, which gives what the classification gives; the other two rows are stuck (R93). -/
theorem exec_outcome_exclusive (s : State) (p : Packet) :
    (exec (.routeBoot p) s = .next (s.classified p) ∧ exec (.routeLog p) s = .fault .noStep ∧
      exec (.routeStore p) s = .fault .noStep) ∨
    (exec (.routeLog p) s = .next (s.classified p) ∧ exec (.routeBoot p) s = .fault .noStep ∧
      exec (.routeStore p) s = .fault .noStep) ∨
    (exec (.routeStore p) s = .next (s.classified p) ∧ exec (.routeBoot p) s = .fault .noStep ∧
      exec (.routeLog p) s = .fault .noStep) := by
  rw [exec_routeBoot, exec_routeLog, exec_routeStore]
  obtain ⟨h, e⟩ | ⟨h, e⟩ | ⟨h, e⟩ := s.classified_cases p <;> simp [h, e, branch]

/-- Settles O21: `route` is its definition's branch by the length, and a decoded packet takes one of the three rows. -/
theorem routeTakesExactlyOneBranch : Obligations.RouteTakesExactlyOneBranch := by
  intro s raw
  refine ⟨s.route raw, exec_route s raw, ?short, ?long⟩
  case short =>
    intro hshort
    exact branch_eq_next.mpr ⟨decide_eq_true hshort, (State.route_of_short hshort).symm⟩
  case long =>
    intro hlong
    rw [State.route_of_long hlong]
    exact ⟨branch_eq_next.mpr ⟨decide_eq_true hlong, rfl⟩, exec_outcome_exclusive s (decodePacket raw)⟩

/-- Settles O22: below seven bytes the row is selected and is what `route` does. -/
theorem runtFrameIsFlaggedNotStored : Obligations.RuntFrameIsFlaggedNotStored := by
  intro s raw hshort
  constructor
  · exact branch_eq_next.mpr ⟨decide_eq_true hshort, rfl⟩
  · exact congrArg _ (State.route_of_short hshort)

/-- Settles O23: each field is read off its bytes, and a raw frame's length byte counts the bytes after it. -/
theorem packetFieldsComeFromTheirBytes : Obligations.PacketFieldsComeFromTheirBytes := by
  rintro f0 f1 f2 f3 f4 f5 f6 payload p rfl
  refine ⟨rfl, toNat_unLE16 f1 f2, toNat_unLE16 f3 f4, rfl, rfl, rfl, fun hraw => ?_⟩
  have hlength := decodePacket_length hraw (by simp)
  have hbyte := (decodePacket (f0 :: f1 :: f2 :: f3 :: f4 :: f5 :: f6 :: payload)).length.isLt
  exact ⟨hlength, by omega⟩

/-! ## Classification -/

/-- Settles O24: a row exists exactly for its class, and the classes are those of R93. -/
theorem classificationGoesInOrder : Obligations.ClassificationGoesInOrder := by
  rintro s p isBoot isLog text rfl hboot hlog
  have hclassBoot : classify s.params p = .boot ↔ isBoot := (classify_boot_iff s.params p).trans hboot.symm
  have hclassLog : classify s.params p = .log ↔ ¬isBoot ∧ isLog := by
    rw [classify_log_iff, ne_eq, hclassBoot, hlog]
  have hclassStore : classify s.params p = .store ↔ ¬isBoot ∧ ¬isLog := by
    rw [classify_store_iff, ne_eq, ne_eq, hclassBoot, hclassLog]
    tauto
  have hselected (k : RouteClass) (u : State) :
      (∃ t, branch (classify s.params p == k) u = .next t) ↔ classify s.params p = k := by
    simp [branch_eq_next]
  exact ⟨(hselected .boot _).trans hclassBoot, (hselected .log _).trans hclassLog,
    (hselected .store _).trans hclassStore⟩

/-- Settles O25: the packet is of the first class, and its text is its payload. -/
theorem bootAnnouncementIsReportedNotStored : Obligations.BootAnnouncementIsReportedNotStored := by
  intro s p b hcmd htext hb hin
  have hpayload : textOf s.params.textRule p.payload = p.payload := by rw [textOf, if_pos htext]
  have hclass : classify s.params p = .boot := by
    rw [classify_boot_iff, hpayload]
    exact ⟨hcmd, b, hb, hin⟩
  refine branch_eq_next.mpr ⟨by simp [hclass], ?_⟩
  rw [State.boot, hpayload]
  rfl

/-- Settles O26: the packet is of the second class, and one byte of its payload is dropped. -/
theorem logLineIsReportedNotStored : Obligations.LogLineIsReportedNotStored := by
  intro s p message hcmd hpayload hplain
  have hboot : classify s.params p ≠ .boot := by
    rw [ne_eq, classify_boot_iff, ← hasBanner_iff, hasBanner_textOf_eq_false hplain]
    simp
  have hclass : classify s.params p = .log := (classify_log_iff s.params p).mpr ⟨hboot, hcmd, message, hpayload⟩
  refine branch_eq_next.mpr ⟨by simp [hclass], ?_⟩
  rw [State.log, hpayload]
  rfl

end Sys2Proof.Machine
end

section
/-! SUPPORT. PacketStore: `enqueue`, `drain`, `clean` and the polls of `takeWithTimeout` (spec/42_packet_store.md R111, R112,
R118 to R120), as whole states. -/

namespace Sys2Proof.Machine

variable {s : State}

/-! ## enqueue and drain -/

/-- Settles O29: without a depth, or below it, there is room; at the depth there is none. -/
theorem enqueueAppendsOrOverflows : Obligations.EnqueueAppendsOrOverflows := by
  intro s p
  rw [exec_enqueue, State.enqueue]
  constructor
  · intro h
    have hroom : s.inqHasRoom = true := by
      rw [s.inqHasRoom_iff]
      rcases h with hnone | ⟨d, hd, hlt⟩
      · simp [hnone]
      · simpa [hd] using hlt
    rw [if_pos hroom]
    rfl
  · intro d hd hfull
    have hroom : ¬s.inqHasRoom = true := by
      rw [s.inqHasRoom_iff]
      simpa [hd] using hfull
    rw [if_neg hroom]
    rfl

/-- PEND has room for all that is queued: no depth, or one that is not exceeded. -/
theorem State.drain_of_room
    (h : s.params.pendDepth = none ∨ ∃ d, s.params.pendDepth = some d ∧ s.pend.length + s.inq.length ≤ d) :
    s.drain = { s with pend := s.pend ++ s.inq, inq := [] } := by
  obtain ⟨-, e⟩ | ⟨d, hd, hlt, -⟩ := s.drain_cases
  · exact e
  · rcases h with hnone | ⟨d', hd', hle⟩
    · simp [hnone] at hd
    · obtain rfl : d' = d := by simpa [hd'] using hd
      omega

/-- PEND has room for some of what is queued only. -/
theorem State.drain_of_overflow {d : Nat} (hd : s.params.pendDepth = some d) (hlt : d < s.pend.length + s.inq.length) :
    s.drain = { s with
      pend := s.pend ++ s.inq.take (d - s.pend.length)
      inq := s.inq.drop (d - s.pend.length)
      faultOverflow := true } := by
  have hover : s.drainOverflows = true := s.drainOverflows_iff.mpr ⟨d, hd, hlt⟩
  rw [State.drain, if_pos hover, State.pendRoom, hd]
  rfl

/-- Settles O30: `drain` in its two cases, each of which keeps PEND ++ INQ. -/
theorem drainMovesTheQueueInOrder : Obligations.DrainMovesTheQueueInOrder := by
  intro s
  rw [exec_drain]
  refine ⟨?room, ?overflow, ?order⟩
  case room =>
    intro h
    rw [State.drain_of_room h, List.length_append]
    rfl
  case overflow =>
    intro d hd hlt hle
    have hcount : (s.pend ++ s.inq.take (d - s.pend.length)).length = d := by
      rw [List.length_append, List.length_take]
      omega
    rw [State.drain_of_overflow hd hlt, hcount]
    rfl
  case order =>
    rintro t ht
    cases ht
    exact s.drain_append

/-! ## take -/

/-- With nothing queued and no depth there is nothing to drain. -/
theorem State.drain_of_inq_nil (hdepth : s.params.pendDepth = none) (hinq : s.inq = []) : s.drain = s := by
  rw [State.drain_of_room (.inl hdepth), hinq, List.append_nil, ← hinq]

/-- Where no stored packet is accepted, none is found (R114). -/
theorem State.found_of_none_stored {k : Pick} (h : ∀ q ∈ s.inq ++ s.pend, k.accepts q = false) : s.found k = none :=
  (s.take_none fun q hq => h q (s.mem_drain_pend hq)).1

/-- Settles O35: with no depth the drained PEND is all that is stored, so the first call finds the only match, and the second
finds none in what is left. -/
theorem secondTakeOfTheSameNumberFindsNothing : Obligations.SecondTakeOfTheSameNumberFindsNothing := by
  intro s t n p before after hdepth hstored hp hothers ht
  have hpend : s.drain.pend = before ++ p :: after := by rw [State.drain_of_room (.inl hdepth), ← hstored]
  have htake : s.take (.bySequence n) =
      { s.drain with pend := before ++ after, responses := s.responses ++ [.packet p] } :=
    State.take_eq_of_first hpend (fun q hq => by simpa using hothers q (List.mem_append_left _ hq)) (by simpa using hp)
  obtain rfl : s.take (.bySequence n) = t := by
    cases ht
    rfl
  have hpend' : (s.take (.bySequence n)).pend = before ++ after := by rw [htake]
  have hinq' : (s.take (.bySequence n)).inq = [] := by rw [htake, State.drain_of_room (.inl hdepth)]
  have hdrain' : (s.take (.bySequence n)).drain = s.take (.bySequence n) :=
    State.drain_of_inq_nil (by simpa using hdepth) hinq'
  have hnone : ∀ q ∈ (s.take (.bySequence n)).drain.pend, (Pick.bySequence n).accepts q = false := by
    rw [hdrain', hpend']
    exact fun q hq => by simpa using hothers q hq
  refine ⟨by rw [htake], hpend', ?_⟩
  rw [exec_take, pickOf, State.take_eq_of_none hnone, hdrain']

/-! ## takeWithTimeout -/

theorem State.afterDeadlineAnswer_of_cons {a : Option Nat} {more : List (Option Nat)}
    (h : s.deadlineAnswers = a :: more) : s.afterDeadlineAnswer = { s with deadlineAnswers := more } := by
  simp [State.afterDeadlineAnswer, h]

theorem State.afterDeadlineAnswer_of_nil (h : s.deadlineAnswers = []) :
    s.afterDeadlineAnswer = { s with asked := s.asked + 1 } := by
  simp [State.afterDeadlineAnswer, h]

theorem State.deadlineAnswer_of_cons {a : Option Nat} {more : List (Option Nat)} (h : s.deadlineAnswers = a :: more) :
    s.deadlineAnswer = a := by
  simp [State.deadlineAnswer, h]

theorem State.deadlineAnswer_of_nil (h : s.deadlineAnswers = []) : s.deadlineAnswer = Config.deadlineAnswer s.asked := by
  simp [State.deadlineAnswer, h]

/-- A poll that finds a packet is a take (R118). -/
theorem State.poll_of_found {k : Pick} {p : Packet} (h : s.found k = some p) (again : Instr) :
    s.poll k again = s.take k := by
  simp [State.poll, State.take, State.takeResponse, h]

/-- An unsuccessful poll after which the deadline has passed (R118). -/
theorem State.poll_of_passed {k : Pick} (h : s.found k = none) (hd : s.deadlineAnswer = none) (again : Instr) :
    s.poll k again = s.drain.afterDeadlineAnswer.fail .timeout := by
  simpa [h, hd] using s.poll_cases k again

/-- An unsuccessful poll after which the call goes on (R118). -/
theorem State.poll_of_later {k : Pick} {n : Nat} (h : s.found k = none) (hd : s.deadlineAnswer = some n)
    (again : Instr) :
    s.poll k again = s.drain.afterDeadlineAnswer.setRequests (insertRequest n again s.requests) := by
  simpa [h, hd] using s.poll_cases k again

/-- Settles O36: the take of the poll finds a packet, and is then the answer; or it does not, and the environment's answer
decides. -/
theorem pollReturnsTimesOutOrGoesOn : Obligations.PollReturnsTimesOutOrGoesOn := by
  intro s cmd seq timeout
  refine ⟨_, _, exec_take s cmd seq, s.take_responses _, ?_⟩
  rw [exec_takeWithTimeout]
  cases hfound : s.found (pickOf cmd seq) with
  | some p => exact .inl ⟨p, by simp [State.takeResponse, hfound], by rw [State.poll_of_found hfound]⟩
  | none =>
    have htake : s.take (pickOf cmd seq) = { s.drain with responses := s.responses ++ [.noPacket] } :=
      State.take_eq_of_none (by simpa [State.found] using hfound)
    rw [htake, ← s.drain_responses]
    refine .inr ⟨by simp [State.takeResponse, hfound], ?passed, ?later, ?freePassed, ?freeLater⟩
    case passed =>
      intro more hmore
      rw [State.poll_of_passed hfound (State.deadlineAnswer_of_cons hmore),
        State.afterDeadlineAnswer_of_cons (s.drain_deadlineAnswers.trans hmore)]
      rfl
    case later =>
      intro n more hmore
      rw [State.poll_of_later hfound (State.deadlineAnswer_of_cons hmore),
        State.afterDeadlineAnswer_of_cons (s.drain_deadlineAnswers.trans hmore)]
      rfl
    case freePassed =>
      intro hnil hpassed
      rw [State.poll_of_passed hfound ((State.deadlineAnswer_of_nil hnil).trans hpassed),
        State.afterDeadlineAnswer_of_nil (s.drain_deadlineAnswers.trans hnil), ← s.drain_asked]
      rfl
    case freeLater =>
      intro n hnil hlater
      rw [State.poll_of_later hfound ((State.deadlineAnswer_of_nil hnil).trans hlater),
        State.afterDeadlineAnswer_of_nil (s.drain_deadlineAnswers.trans hnil), ← s.drain_asked]
      rfl

section

variable {n : Word16} {timeout : Nat} {more : List (Option Nat)} (hdepth : s.params.pendDepth = none)
  (hreq : s.requests = [.takeWithTimeout none (some n) timeout]) (hnone : ∀ p ∈ s.pend ++ s.inq, p.sequence ≠ n)

include hreq in
/-- The step of a session whose only request is the call is its poll. -/
theorem step_takeWithTimeout :
    step s = .next ((s.setRequests []).poll (.bySequence n) (.takeWithTimeout none (some n) timeout)) :=
  step_of_request hreq rfl

include hnone in
/-- A call for a number that no stored packet has finds nothing. -/
theorem found_bySequence_eq_none (rest : List Instr) : (s.setRequests rest).found (.bySequence n) = none :=
  State.found_of_none_stored fun q hq => by simpa using hnone q (by simpa [or_comm] using hq)

include hdepth hreq hnone

/-- The poll after which the deadline has passed: the store is drained and the call has failed. -/
theorem step_of_passed (hanswers : s.deadlineAnswers = none :: more) : step s = .next { s with
    pend := s.pend ++ s.inq
    inq := []
    requests := []
    deadlineAnswers := more
    responses := s.responses ++ [.failed .timeout] } := by
  have hdrained : (s.setRequests []).drain.deadlineAnswers = none :: more := by simpa using hanswers
  rw [step_takeWithTimeout hreq,
    State.poll_of_passed (found_bySequence_eq_none hnone []) (State.deadlineAnswer_of_cons hanswers),
    State.afterDeadlineAnswer_of_cons hdrained, State.drain_of_room (s := s.setRequests []) (.inl hdepth)]
  rfl

/-- A poll after which the call goes on at once: the store is drained and the call stands where it stood. -/
theorem step_of_notYet (hanswers : s.deadlineAnswers = some 0 :: more) : step s = .next { s with
    pend := s.pend ++ s.inq
    inq := []
    deadlineAnswers := more } := by
  have hdrained : (s.setRequests []).drain.deadlineAnswers = some 0 :: more := by simpa using hanswers
  rw [step_takeWithTimeout hreq,
    State.poll_of_later (found_bySequence_eq_none hnone []) (State.deadlineAnswer_of_cons hanswers),
    State.afterDeadlineAnswer_of_cons hdrained, State.drain_of_room (s := s.setRequests []) (.inl hdepth), hreq]
  rfl

end

/-- Settles O37: by induction on the polls; each one drains, finds nothing and puts the call back, until the answer is that the
deadline has passed. -/
theorem timeoutComesWithTheDeadline : Obligations.TimeoutComesWithTheDeadline := by
  intro s n timeout polls later hdepth hreq hnone hanswers
  induction polls generalizing s with
  | zero => exact run_succ_of_next 0 (step_of_passed hdepth hreq hnone hanswers)
  | succ polls ih =>
    rw [run_succ_of_next _ (step_of_notYet hdepth hreq hnone hanswers)]
    have hrest := ih { s with
      pend := s.pend ++ s.inq
      inq := []
      deadlineAnswers := List.replicate polls (some 0) ++ none :: later } hdepth hreq (by simpa using hnone) rfl
    simpa using hrest

/-! ## clean -/

/-- Settles O38: `clean` keeps no packet without `cmd`, and with it those of other commands. -/
theorem cleanRemovesAllOrOneCommand : Obligations.CleanRemovesAllOrOneCommand := by
  intro s
  refine ⟨_, exec_drain s, ?all, ?one⟩
  case all =>
    rw [exec_clean, ← s.drain_responses]
    have hnone : s.drain.pend.filter (keptByClean none) = [] := by simp [keptByClean]
    rw [hnone]
    rfl
  case one =>
    intro c
    have hkept : keptByClean (some c) = fun p => decide (p.commandId ≠ c) := by
      funext p
      by_cases h : p.commandId = c <;> simp [keptByClean, h]
    rw [exec_clean, hkept, ← s.drain_responses]
    rfl

end Sys2Proof.Machine
end

section
/-! SUPPORT. LinkSession: `open`, `close`, `disconnect` and `send` (spec/43_link_session.md R131 to R140), as whole states, and
a run of sends. -/

namespace Sys2Proof.Machine

variable {s : State}

/-! ## Session control -/

theorem State.openFirst_of_accepting (h : s.transportAnswer = true) :
    s.openFirst = ((s.callTransport .opening).afterTransportAnswer.setConnected true).respond .ok := by
  rw [State.openFirst, if_pos h]

theorem State.openFirst_of_refusing (h : s.transportAnswer = false) :
    s.openFirst = (s.callTransport .opening).afterTransportAnswer.fail .transportOpenFailed := by
  rw [State.openFirst, if_neg (by simp [h])]

theorem State.afterTransportAnswer_of_cons {a : Bool} {more : List Bool} (h : s.transportAnswers = a :: more) :
    s.afterTransportAnswer = { s with transportAnswers := more } := by
  simp [State.afterTransportAnswer, h]

theorem State.afterTransportAnswer_of_nil (h : s.transportAnswers = []) :
    s.afterTransportAnswer = { s with asked := s.asked + 1 } := by
  simp [State.afterTransportAnswer, h]

theorem State.transportAnswer_of_cons {a : Bool} {more : List Bool} (h : s.transportAnswers = a :: more) :
    s.transportAnswer = a := by
  simp [State.transportAnswer, h]

theorem State.transportAnswer_of_nil (h : s.transportAnswers = []) :
    s.transportAnswer = Config.transportOpens s.asked := by
  simp [State.transportAnswer, h]

/-- Settles O39: the answer is the one State holds, or the free value of the next question; it decides between the two
outcomes. -/
theorem openConnectsIfTheTransportAccepts : Obligations.OpenConnectsIfTheTransportAccepts := by
  intro s more hc
  have hcalled {answers : List Bool} (h : s.transportAnswers = answers) :
      (s.callTransport .opening).transportAnswers = answers := h
  rw [exec_openSession_of_closed hc]
  refine ⟨?accepts, ?refuses, ?free⟩
  case accepts =>
    intro h
    rw [State.openFirst_of_accepting (State.transportAnswer_of_cons h), State.afterTransportAnswer_of_cons (hcalled h)]
    rfl
  case refuses =>
    intro h
    rw [State.openFirst_of_refusing (State.transportAnswer_of_cons h), State.afterTransportAnswer_of_cons (hcalled h)]
    rfl
  case free =>
    intro h
    have hanswer : s.transportAnswer = Config.transportOpens s.asked := State.transportAnswer_of_nil h
    cases hfree : Config.transportOpens s.asked with
    | true =>
      rw [State.openFirst_of_accepting (hanswer.trans hfree), State.afterTransportAnswer_of_nil (hcalled h)]
      rfl
    | false =>
      rw [State.openFirst_of_refusing (hanswer.trans hfree), State.afterTransportAnswer_of_nil (hcalled h),
        if_neg Bool.false_ne_true, ← hc]
      rfl

/-- Settles O40: `openAgain` only answers. -/
theorem secondOpenChangesNothing : Obligations.SecondOpenChangesNothing := by
  intro s hc
  rw [exec_openSession_of_connected hc, s.openAgain_cases]
  rfl

/-- Settles O41: the parameter decides whether the decoder is reset; the session's flag, the call and the answer are the same. -/
theorem closeKeepsTheStore : Obligations.CloseKeepsTheStore := by
  intro s
  refine ⟨?keeps, ?resets, ?closed⟩
  case keeps =>
    intro hc hparam
    rw [exec_closeSession_of_connected hc, State.closeDecoder, if_neg (by simp [hparam])]
    rfl
  case resets =>
    intro hc hparam
    rw [exec_closeSession_of_connected hc, State.closeDecoder, if_pos (by simp [hparam])]
    rfl
  case closed =>
    intro hc
    rw [exec_closeSession_of_closed hc]
    rfl

/-- Settles O42: `disconnect` writes the decoder's registers and CONNECTED. -/
theorem disconnectResetsTheDecoderOnly : Obligations.DisconnectResetsTheDecoderOnly := exec_disconnect

/-! ## send -/

/-- Settles O43: the frame stated is that of `build`, and both rows write it. -/
theorem sendWritesTheFrameAndCounts : Obligations.SendWritesTheFrameAndCounts := by
  intro s h c payload frame hc hp hframe
  have hbuild : frame = buildFrame h s.txSeq c payload := hframe
  subst hbuild
  refine ⟨length_buildFrame h s.txSeq c payload, exec_send_of_fits h c hc hp, ?_⟩
  exact branch_eq_next.mpr ⟨selects_frameTx_iff.mpr ⟨hc, hp, rfl⟩, rfl⟩

/-- Settles O44: a failing check answers its error condition, which is all that `fail` does. -/
theorem failedSendChangesNothing : Obligations.FailedSendChangesNothing := by
  intro s h c payload
  constructor
  · exact fun hc => exec_send_of_closed h c payload hc
  · exact fun hc hp => exec_send_of_oversized h c hc (by omega)

/-- The counter moves by one modulo 65536 (R138). -/
theorem toNat_txSeq_sendFrame (s : State) (h : Word16) (c : Byte) (payload : Bytes) :
    (s.sendFrame h c payload).txSeq.toNat = (s.txSeq.toNat + 1) % 65536 := by
  simp [BitVec.toNat_add]

/-- The numbers that successive sends use, from `n` on (R140(a)). -/
def numbersFrom (n : Word16) (count : Nat) : List Word16 := (List.range count).map fun k => n + BitVec.ofNat 16 k

/-- One number on, and then as many as before. -/
theorem add_ofNat_succ (n : Word16) (k : Nat) : n + BitVec.ofNat 16 (k + 1) = n + 1 + BitVec.ofNat 16 k := by
  rw [BitVec.ofNat_add, BitVec.add_assoc, BitVec.add_comm (BitVec.ofNat 16 k)]
  rfl

theorem numbersFrom_succ (n : Word16) (count : Nat) : numbersFrom n (count + 1) = n :: numbersFrom (n + 1) count := by
  have hnext : (fun k => n + BitVec.ofNat 16 k) ∘ Nat.succ = fun k => n + 1 + BitVec.ofNat 16 k :=
    funext fun k => add_ofNat_succ n k
  rw [numbersFrom, List.range_succ_eq_map, List.map_cons, List.map_map, hnext, numbersFrom, BitVec.ofNat_eq_ofNat,
    BitVec.add_zero]

/-- A run of sends of a connected session: numbers, counter and frames (R140(a)). -/
theorem run_sends (calls : List (Word16 × Byte × Bytes)) (hc : s.connected = true)
    (hfits : ∀ k ∈ calls, k.2.2.length ≤ 249) (hreq : s.requests = calls.map fun k => .send k.1 k.2.1 k.2.2) :
    ∃ t, core.run calls.length s = .next t ∧
      t.responses = s.responses ++ (numbersFrom s.txSeq calls.length).map Response.sequence ∧
      t.txSeq = s.txSeq + BitVec.ofNat 16 calls.length ∧
      t.tx.map frameNumber = s.tx.map frameNumber ++ numbersFrom s.txSeq calls.length := by
  induction calls generalizing s with
  | nil => exact ⟨s, run_zero s, by simp [numbersFrom], by simp, by simp [numbersFrom]⟩
  | cons call calls ih =>
    obtain ⟨h, c, payload⟩ := call
    obtain ⟨hp, hrest⟩ := List.forall_mem_cons.mp hfits
    have hstep : step s =
        .next ((s.setRequests (calls.map fun k => .send k.1 k.2.1 k.2.2)).sendFrame h c payload) := by
      rw [step_of_request hreq rfl]
      exact exec_send_of_fits h c hc hp
    obtain ⟨t, hrun, hresp, hseq, htx⟩ := ih
      (s := (s.setRequests (calls.map fun k => .send k.1 k.2.1 k.2.2)).sendFrame h c payload) hc hrest rfl
    refine ⟨t, (run_succ_of_next _ hstep).trans hrun, ?_, ?_, ?_⟩
    · simp [hresp, numbersFrom_succ]
    · rw [hseq, List.length_cons, add_ofNat_succ]
      rfl
    · simp [htx, numbersFrom_succ]

/-- Settles O46: the run's numbers, mapped to the responses. -/
theorem successiveSendsCountUp : Obligations.SuccessiveSendsCountUp := by
  intro s calls hc hfits hreq
  obtain ⟨t, hrun, hresp, hseq, htx⟩ := run_sends calls hc hfits hreq
  refine ⟨t, hrun, ?_, hseq, htx⟩
  simpa [numbersFrom, Function.comp_def] using hresp

end Sys2Proof.Machine
end

section
/-! SUPPORT. The whole machine: what each part leaves alone, whatever it does (spec/10_state.md R26, spec/20_memory.md R40),
from the effects of its instructions. -/

namespace Sys2Proof.Machine

variable {s t u : State} {i : Instr}

/-! ## What reception keeps, packaged once -/

/-- A property that the few writes of reception and routing keep: the decoder's registers, an event, the runt flag, and
`enqueue` of a packet of the third class. -/
structure KeptByReception (P : State → Prop) : Prop where
  setDecoder : ∀ u st buf len, P u → P (u.setDecoder st buf len)
  emitDiag : ∀ u d, P u → P (u.emitDiag d)
  raiseRunt : ∀ u, P u → P u.raiseRunt
  enqueue : ∀ u p, classify u.params p = .store → P u → P (u.enqueue p)

namespace KeptByReception

variable {P : State → Prop} (hP : KeptByReception P)

include hP

theorem classified (h : P s) (p : Packet) : P (s.classified p) := by
  obtain ⟨-, e⟩ | ⟨-, e⟩ | ⟨hclass, e⟩ := s.classified_cases p <;> rw [e]
  · exact hP.emitDiag s _ h
  · exact hP.emitDiag s _ h
  · exact hP.enqueue s p hclass h

theorem route (h : P s) (raw : Bytes) : P (s.route raw) := by
  obtain ⟨-, e⟩ | ⟨-, e⟩ := s.route_cases raw <;> rw [e]
  · exact hP.emitDiag _ _ (hP.raiseRunt s h)
  · exact hP.classified h _

theorem collect (h : P s) (b : Byte) : P (s.collect b) := by
  obtain ⟨-, e⟩ | ⟨-, e⟩ := s.collect_cases b <;> rw [e]
  · exact hP.route (hP.setDecoder s _ _ _ h) _
  · exact hP.setDecoder s _ _ _ h

theorem rxByte (h : P s) (b : Byte) : P (s.rxByte b) := by
  have hwrite (st : RxState) : P (s.setRxState st) := hP.setDecoder s st s.rxBuf s.rxLen h
  obtain ⟨-, -, e⟩ | ⟨-, -, e⟩ | ⟨-, -, e⟩ | ⟨-, -, e⟩ | ⟨-, e⟩ := s.rxByte_cases b <;> rw [e]
  · exact hwrite .sawFirstMarker
  · exact hP.emitDiag _ _ (hwrite .idle)
  · exact hP.setDecoder s _ _ _ h
  · exact hP.emitDiag _ _ (hwrite .idle)
  · exact hP.collect h b

/-- What those writes keep, every effect of reception keeps, if a direct `enqueue` does. -/
theorem effect (h : P s) (he : ReceptionEffect s i t) (henqueue : ∀ p, i = .enqueue p → P (s.enqueue p)) : P t := by
  cases he with
  | lost => exact h
  | hunted b _ => exact hP.rxByte h b
  | collected b _ _ => exact hP.collect h b
  | framed raw _ => exact State.rxBytes_keeps (P := P) (fun _ b hu => hP.rxByte hu b) _ s h
  | reset _ => exact hP.setDecoder s _ _ _ h
  | routed raw _ => exact hP.route h raw
  | classified p _ => exact hP.classified h p
  | enqueued p hi => exact henqueue p hi

end KeptByReception

/-! ## What reception and routing leave alone -/

/-- What holds between a state and what reception, routing, `enqueue` and `reset` make of it. -/
structure ReceptionFrame (s t : State) : Prop where
  params : t.params = s.params
  txSeq : t.txSeq = s.txSeq
  connected : t.connected = s.connected
  pend : t.pend = s.pend
  tx : t.tx = s.tx
  responses : t.responses = s.responses
  transportCalls : t.transportCalls = s.transportCalls
  requests : t.requests = s.requests
  inq : s.inq <+: t.inq
  diag : s.diag <+: t.diag
  faultRunt : s.faultRunt = true → t.faultRunt = true
  faultOverflow : s.faultOverflow = true → t.faultOverflow = true

namespace ReceptionFrame

theorem refl (s : State) : ReceptionFrame s s := by constructor <;> simp

theorem trans (h : ReceptionFrame s t) (h' : ReceptionFrame t u) : ReceptionFrame s u where
  params := h'.params.trans h.params
  txSeq := h'.txSeq.trans h.txSeq
  connected := h'.connected.trans h.connected
  pend := h'.pend.trans h.pend
  tx := h'.tx.trans h.tx
  responses := h'.responses.trans h.responses
  transportCalls := h'.transportCalls.trans h.transportCalls
  requests := h'.requests.trans h.requests
  inq := h.inq.trans h'.inq
  diag := h.diag.trans h'.diag
  faultRunt := h'.faultRunt ∘ h.faultRunt
  faultOverflow := h'.faultOverflow ∘ h.faultOverflow

theorem enqueue (h : ReceptionFrame s t) (p : Packet) : ReceptionFrame s (t.enqueue p) := by
  apply h.trans
  obtain ⟨-, e⟩ | ⟨-, e⟩ := t.enqueue_cases p <;> rw [e] <;> constructor <;> simp

theorem kept (s : State) : KeptByReception (ReceptionFrame s) where
  setDecoder _ _ _ _ h := h.trans (by constructor <;> simp)
  emitDiag _ _ h := h.trans (by constructor <;> simp)
  raiseRunt _ h := h.trans (by constructor <;> simp)
  enqueue _ p _ h := h.enqueue p

end ReceptionFrame

theorem ReceptionEffect.frame (h : ReceptionEffect s i t) : ReceptionFrame s t :=
  (ReceptionFrame.kept s).effect (.refl s) h fun p _ => (ReceptionFrame.refl s).enqueue p

/-- Settles O48: the instructions named are those of reception and routing. -/
theorem receptionLeavesTheSessionAlone : Obligations.ReceptionLeavesTheSessionAlone := by
  intro i s t hi h
  have hpart : i.part = .reception := by
    rcases hi with rfl | rfl | rfl | ⟨_, rfl⟩ | ⟨_, rfl⟩ | ⟨_, rfl⟩ | ⟨_, rfl⟩ | ⟨_, rfl⟩ | ⟨_, rfl⟩ | ⟨_, rfl⟩ | ⟨_, rfl⟩ |
      ⟨_, rfl⟩ | ⟨_, rfl⟩ | ⟨_, rfl⟩ | ⟨_, rfl⟩ | ⟨_, rfl⟩ | ⟨_, rfl⟩ <;> rfl
  have hf : ReceptionFrame s t := (receptionEffect_of_exec hpart h).frame
  exact ⟨hf.txSeq, hf.connected, hf.pend, hf.tx, hf.responses, hf.transportCalls, hf.requests, hf.inq⟩

/-! ## What the store's operations leave alone -/

/-- What holds between a state and what an operation of the store makes of it. -/
structure StoreFrame (s t : State) : Prop where
  params : t.params = s.params
  rxState : t.rxState = s.rxState
  rxBuf : t.rxBuf = s.rxBuf
  rxLen : t.rxLen = s.rxLen
  txSeq : t.txSeq = s.txSeq
  connected : t.connected = s.connected
  faultRunt : t.faultRunt = s.faultRunt
  tx : t.tx = s.tx
  diag : t.diag = s.diag
  transportCalls : t.transportCalls = s.transportCalls
  responses : s.responses <+: t.responses
  faultOverflow : s.faultOverflow = true → t.faultOverflow = true

theorem State.drain_faultOverflow_of_true (h : s.faultOverflow = true) : s.drain.faultOverflow = true := by
  obtain ⟨-, e⟩ | ⟨d, -, -, e⟩ := s.drain_cases <;> simp [e, h]

theorem StoreFrame.enqueue (s : State) (p : Packet) : StoreFrame s (s.enqueue p) := by
  obtain ⟨-, e⟩ | ⟨-, e⟩ := s.enqueue_cases p <;> rw [e] <;> constructor <;> simp

theorem StoreFrame.afterTake_respond (s : State) (k : Pick) (r : Response) :
    StoreFrame s ((s.afterTake k).respond r) := by
  constructor <;> simp +contextual [State.afterTake, State.drain_faultOverflow_of_true]

theorem StoreEffect.frame (h : StoreEffect s i t) : StoreFrame s t := by
  cases h with
  | drained _ => constructor <;> simp +contextual [State.drain_faultOverflow_of_true]
  | taken k => exact .afterTake_respond s k _
  | polled k =>
    obtain ⟨p, -, e⟩ | ⟨-, -, e⟩ | ⟨n, -, -, e⟩ := s.poll_cases k i <;> rw [e]
    · exact .afterTake_respond s k _
    · constructor <;> simp +contextual [State.drain_faultOverflow_of_true]
    · constructor <;> simp +contextual [State.drain_faultOverflow_of_true]
  | cleaned cmd => constructor <;> simp +contextual [State.drain_faultOverflow_of_true]

section

variable (s) (c : Bool)

/-! CONNECTED plays no part in the store (R110). -/

theorem State.enqueue_setConnected (p : Packet) : (s.setConnected c).enqueue p = (s.enqueue p).setConnected c := by
  have hroom : (s.setConnected c).inqHasRoom = s.inqHasRoom := rfl
  rw [State.enqueue, State.enqueue, hroom]
  split <;> rfl

theorem State.drain_setConnected : (s.setConnected c).drain = s.drain.setConnected c := by
  have hover : (s.setConnected c).drainOverflows = s.drainOverflows := rfl
  rw [State.drain, State.drain, hover]
  split <;> rfl

theorem State.found_setConnected (k : Pick) : (s.setConnected c).found k = s.found k := by
  rw [State.found, State.found, s.drain_setConnected c, State.setConnected_pend]

theorem State.take_setConnected (k : Pick) : (s.setConnected c).take k = (s.take k).setConnected c := by
  rw [State.take, State.takeResponse, s.found_setConnected c k, State.afterTake, s.drain_setConnected c]
  rfl

theorem State.afterDeadlineAnswer_setConnected :
    (s.setConnected c).afterDeadlineAnswer = s.afterDeadlineAnswer.setConnected c := by
  have hanswers : (s.setConnected c).deadlineAnswers = s.deadlineAnswers := rfl
  rw [State.afterDeadlineAnswer, State.afterDeadlineAnswer, hanswers]
  split <;> rfl

theorem State.poll_setConnected (k : Pick) (i : Instr) :
    (s.setConnected c).poll k i = (s.poll k i).setConnected c := by
  have hfound : (s.setConnected c).found k = s.found k := s.found_setConnected c k
  have hanswer : (s.setConnected c).deadlineAnswer = s.deadlineAnswer := rfl
  cases h : s.found k with
  | some p => rw [State.poll_of_found h, State.poll_of_found (hfound.trans h), s.take_setConnected c k]
  | none =>
    cases hd : s.deadlineAnswer with
    | none =>
      rw [State.poll_of_passed h hd, State.poll_of_passed (hfound.trans h) (hanswer.trans hd), s.drain_setConnected c,
        State.afterDeadlineAnswer_setConnected]
      rfl
    | some n =>
      rw [State.poll_of_later h hd, State.poll_of_later (hfound.trans h) (hanswer.trans hd), s.drain_setConnected c,
        State.afterDeadlineAnswer_setConnected]
      rfl

end

/-- An operation of the store does the same whatever CONNECTED is (R110). -/
theorem exec_setConnected_of_store (hi : i.part = .store) (c : Bool) (h : exec i s = .next t) :
    exec i (s.setConnected c) = .next (t.setConnected c) := by
  cases i <;> cases hi <;> cases h
  case drain =>
    rw [exec_drain, s.drain_setConnected c]
    rfl
  case take cmd seq => exact congrArg _ (s.take_setConnected c _)
  case takeSeq n cmd => exact congrArg _ (s.take_setConnected c _)
  case takeCmd cmd => exact congrArg _ (s.take_setConnected c _)
  case takeFifo => exact congrArg _ (s.take_setConnected c _)
  case takeWithTimeout cmd seq timeout => exact congrArg _ (s.poll_setConnected c _ _)
  case clean cmd =>
    rw [exec_clean, s.drain_setConnected c]
    rfl

/-- Settles O49: the instructions named are those of the store's consumer, and `enqueue`. -/
theorem storeOperationsLeaveTheDecoderAlone : Obligations.StoreOperationsLeaveTheDecoderAlone := by
  intro i s t hi h
  have hboth : StoreFrame s t ∧ exec i (s.setConnected !s.connected) = .next (t.setConnected !s.connected) := by
    obtain hpart | ⟨p, rfl⟩ : i.part = .store ∨ ∃ p, i = .enqueue p := by
      rcases hi with rfl | rfl | ⟨_, _, rfl⟩ | ⟨_, _, rfl⟩ | ⟨_, rfl⟩ | ⟨_, _, _, rfl⟩ | ⟨_, rfl⟩ | ⟨_, rfl⟩ <;>
        simp [Instr.part]
    · exact ⟨(storeEffect_of_exec hpart h).frame, exec_setConnected_of_store hpart _ h⟩
    · cases h
      exact ⟨.enqueue s p, congrArg _ (s.enqueue_setConnected _ p)⟩
  obtain ⟨hf, hexec⟩ := hboth
  exact ⟨hf.rxState, hf.rxBuf, hf.rxLen, hf.txSeq, hf.connected, hf.faultRunt, hf.tx, hf.diag, hf.transportCalls, hexec⟩

/-! ## What the session's operations leave alone -/

/-- What holds between a state and what an operation of the session makes of it. -/
structure SessionFrame (s t : State) : Prop where
  params : t.params = s.params
  inq : t.inq = s.inq
  pend : t.pend = s.pend
  diag : t.diag = s.diag
  faultRunt : t.faultRunt = s.faultRunt
  faultOverflow : t.faultOverflow = s.faultOverflow
  tx : s.tx <+: t.tx
  responses : s.responses <+: t.responses
  transportCalls : s.transportCalls <+: t.transportCalls
  noPacket : ∀ p, Response.packet p ∈ t.responses → Response.packet p ∈ s.responses

theorem SessionFrame.respond (s : State) {r : Response} (hr : ∀ p, r ≠ .packet p) : SessionFrame s (s.respond r) := by
  constructor <;> simp [fun p => (hr p).symm]

theorem SessionFrame.openFirst (s : State) : SessionFrame s s.openFirst := by
  obtain ⟨-, e⟩ | ⟨-, e⟩ := s.openFirst_cases <;> rw [e] <;> constructor <;> simp

theorem SessionEffect.frame (h : SessionEffect s i t) : SessionFrame s t := by
  cases h with
  | opened _ _ => exact .openFirst s
  | openedAgain _ =>
    rw [s.openAgain_cases]
    exact .respond s (by split <;> simp)
  | closed _ => constructor <;> simp
  | closedAgain _ => exact .respond s (by simp)
  | disconnected _ => constructor <;> simp
  | sent h c payload _ _ _ => constructor <;> simp
  | sendFailed e => exact .respond s (by simp)

/-- Settles O50: the instructions named are those of the session, and `reset`. -/
theorem sessionOperationsLeaveTheStoreAlone : Obligations.SessionOperationsLeaveTheStoreAlone := by
  intro i s t hi h
  obtain hpart | rfl : i.part = .session ∨ i = .reset := by
    rcases hi with rfl | rfl | rfl | rfl | ⟨_, _, _, rfl⟩ | ⟨_, _, _, _, rfl⟩ <;> simp [Instr.part]
  · have hf : SessionFrame s t := (sessionEffect_of_exec hpart h).frame
    exact ⟨hf.inq, hf.pend, hf.diag, hf.faultRunt, hf.faultOverflow⟩
  · cases h
    exact ⟨rfl, rfl, rfl, rfl, rfl⟩

/-! ## Every instruction -/

/-- Settles O51: in a frame only a completing byte, a reset or a close that resets leaves InFrame; every other effect keeps
what is collected or appends to it. -/
theorem onlyCompletionOrResetEndsAFrame : Obligations.OnlyCompletionOrResetEndsAFrame := by
  intro i s t hs hframe h
  have hkept (hstate : t.rxState = s.rxState) (hbuf : t.rxBuf = s.rxBuf) :
      t.rxState = .inFrame ∧ s.rxBuf <+: t.rxBuf := by simp [hstate, hbuf, hs]
  rcases effect_of_exec h with hr | hst | hse
  · cases hr with
    | lost => exact .inl (hkept rfl rfl)
    | hunted b hne => exact absurd hs hne
    | collected b _ hi =>
      cases hdone : s.completes b with
      | true =>
        obtain ⟨len, hlen, hcount⟩ := (State.completes_iff_of_len b).mp hdone
        rw [State.collect_of_completes hdone, State.completeFrame]
        exact .inr ⟨by simp, by simp, by simp, .inr (.inr (.inr ⟨b, len, hlen, hcount, hi⟩))⟩
      | false =>
        rw [State.collect_of_not_completes hdone]
        exact .inl ⟨hs, s.rxBuf.prefix_append [b]⟩
    | framed raw hi => exact absurd hi (hframe raw)
    | reset hi => exact .inr ⟨rfl, rfl, rfl, .inl hi⟩
    | routed raw _ => exact .inl (hkept (by simp) (by simp))
    | classified p _ => exact .inl (hkept (by simp) (by simp))
    | enqueued p _ => exact .inl (hkept (by simp) (by simp))
  · exact .inl (hkept hst.frame.rxState hst.frame.rxBuf)
  · cases hse with
    | opened _ _ => exact .inl (hkept (by simp) (by simp))
    | openedAgain _ => exact .inl (hkept (by simp) (by simp))
    | closed hi =>
      cases hparam : s.params.closeResetsDecoder with
      | true =>
        rw [State.closeDecoder, if_pos (by simpa using hparam)]
        exact .inr ⟨rfl, rfl, rfl, .inr (.inr (.inl ⟨hi, rfl⟩))⟩
      | false =>
        rw [State.closeDecoder, if_neg (by simp [hparam])] at hkept ⊢
        exact .inl (hkept rfl rfl)
    | closedAgain _ => exact .inl (hkept rfl rfl)
    | disconnected hi => exact .inr ⟨rfl, rfl, rfl, .inr (.inl hi)⟩
    | sent h c payload _ _ _ => exact .inl (hkept rfl rfl)
    | sendFailed e => exact .inl (hkept rfl rfl)

/-- Settles O52: reception and the store keep CONNECTED; of the session's effects only opening sets it and only closing and
disconnecting clear it. -/
theorem onlyThreeOperationsMoveConnected : Obligations.OnlyThreeOperationsMoveConnected := by
  intro i s t h
  have hkept (hsame : t.connected = s.connected) : (s.connected = false → t.connected = true → i = .openSession) ∧
      (s.connected = true → t.connected = false → i = .closeSession ∨ i = .disconnect) := by simp_all
  rcases effect_of_exec h with hr | hst | hse
  · exact hkept hr.frame.connected
  · exact hkept hst.frame.connected
  · cases hse with
    | opened hi hc => simp [hi, hc]
    | openedAgain _ => exact hkept (by simp)
    | closed hi => simp [hi]
    | closedAgain _ => exact hkept rfl
    | disconnected hi => simp [hi]
    | sent h c payload _ _ _ => exact hkept rfl
    | sendFailed e => exact hkept rfl

/-- Settles O53: from the three frames. -/
theorem nothingPutOutIsTakenBack : Obligations.NothingPutOutIsTakenBack := by
  intro i s t h
  rcases effect_of_exec h with hr | hst | hse
  · have hf : ReceptionFrame s t := hr.frame
    exact ⟨hf.params, hf.faultRunt, hf.faultOverflow, by simp [hf.tx], hf.diag, by simp [hf.responses],
      by simp [hf.transportCalls]⟩
  · have hf : StoreFrame s t := hst.frame
    exact ⟨hf.params, by simp [hf.faultRunt], hf.faultOverflow, by simp [hf.tx], by simp [hf.diag], hf.responses,
      by simp [hf.transportCalls]⟩
  · have hf : SessionFrame s t := hse.frame
    exact ⟨hf.params, by simp [hf.faultRunt], by simp [hf.faultOverflow], hf.tx, by simp [hf.diag], hf.responses,
      hf.transportCalls⟩

/-- Settles O45: the frames of reception and of the store keep the counter and TX; of the session's effects only `sent` moves
them. -/
theorem onlySendMovesTheCounter : Obligations.OnlySendMovesTheCounter := by
  constructor
  · intro s h c payload hc hp
    exact ⟨_, _, exec_send_of_fits h c hc hp, toNat_txSeq_sendFrame s h c payload, rfl, rfl,
      frameNumber_buildFrame h s.txSeq c payload⟩
  · intro i s t h
    rcases effect_of_exec h with hr | hst | hse
    · exact .inl ⟨hr.frame.txSeq, hr.frame.tx⟩
    · exact .inl ⟨hst.frame.txSeq, hst.frame.tx⟩
    · cases hse with
      | opened _ _ => exact .inl (by simp)
      | openedAgain _ => exact .inl (by simp)
      | closed _ => exact .inl (by simp)
      | closedAgain _ => exact .inl (by simp)
      | disconnected _ => exact .inl (by simp)
      | sent hw c payload hc _ hi =>
        exact .inr ⟨hc, toNat_txSeq_sendFrame s hw c payload, rfl,
          ⟨_, rfl, frameNumber_buildFrame hw s.txSeq c payload⟩, hw, c, payload, hi⟩
      | sendFailed e => exact .inl (by simp)

end Sys2Proof.Machine
end

section
/-! SUPPORT. The whole machine, continued: the overflow flag without depths (spec/10_state.md R23), log lines and the store
(spec/41_packet_router.md R95), construction, the step and the table words. -/

namespace Sys2Proof.Machine

variable {s t : State} {i : Instr}

/-! ## The overflow flag without depths -/

/-- With INQ unbounded, the overflow flag is as it was. -/
def KeepsOverflow (flag : Bool) (s : State) : Prop := s.params.inqDepth = none ∧ s.faultOverflow = flag

theorem KeepsOverflow.enqueue {flag : Bool} (h : KeepsOverflow flag s) (p : Packet) : KeepsOverflow flag (s.enqueue p) := by
  have hroom : s.inqHasRoom = true := by simp [s.inqHasRoom_iff, h.1]
  rw [State.enqueue, if_pos hroom]
  exact h

theorem KeepsOverflow.kept (flag : Bool) : KeptByReception (KeepsOverflow flag) where
  setDecoder _ _ _ _ h := h
  emitDiag _ _ h := h
  raiseRunt _ h := h
  enqueue _ p _ h := h.enqueue p

theorem ReceptionEffect.faultOverflow_eq (h : ReceptionEffect s i t) (hinq : s.params.inqDepth = none) :
    t.faultOverflow = s.faultOverflow := by
  have hs : KeepsOverflow s.faultOverflow s := ⟨hinq, rfl⟩
  exact ((KeepsOverflow.kept s.faultOverflow).effect hs h fun p _ => hs.enqueue p).2

theorem StoreEffect.faultOverflow_eq (h : StoreEffect s i t) (hpend : s.params.pendDepth = none) :
    t.faultOverflow = s.faultOverflow := by
  have hdrain : s.drain.faultOverflow = s.faultOverflow := by rw [State.drain_of_room (.inl hpend)]
  cases h with
  | drained _ => exact hdrain
  | taken k => exact hdrain
  | polled k =>
    obtain ⟨p, -, e⟩ | ⟨-, -, e⟩ | ⟨n, -, -, e⟩ := s.poll_cases k i <;> simp [e, State.afterTake, hdrain]
  | cleaned cmd => exact hdrain

/-- Settles O54: without INQ_DEPTH `enqueue` has room, without PEND_DEPTH `drain` has, and nothing else writes the flag. -/
theorem unboundedStoreNeverOverflows : Obligations.UnboundedStoreNeverOverflows := by
  intro i s t hinq hpend h
  rcases effect_of_exec h with hr | hst | hse
  · exact hr.faultOverflow_eq hinq
  · exact hst.faultOverflow_eq hpend
  · exact hse.frame.faultOverflow

/-! ## Log lines and the store -/

/-- A diagnostic packet whose payload begins 0x02 (R95, R214). -/
def IsLogLine (c : Params) (p : Packet) : Prop := p.commandId = c.diagnosticCmd ∧ ∃ rest, p.payload = 0x02#8 :: rest

/-- A packet of the third class is no log line (R93). -/
theorem not_isLogLine_of_store {c : Params} {p : Packet} (h : classify c p = .store) : ¬IsLogLine c p := by
  obtain ⟨hboot, hlog⟩ := (classify_store_iff c p).mp h
  exact fun hline => hlog ((classify_log_iff c p).mpr ⟨hboot, hline⟩)

/-- No log line is stored or queued, by the parameters that are the session's. -/
def StoresNoLogLine (c : Params) (s : State) : Prop := s.params = c ∧ ∀ p ∈ s.inq ++ s.pend, ¬IsLogLine c p

namespace StoresNoLogLine

variable {c : Params}

theorem of_fewer (h : StoresNoLogLine c s) (hpar : t.params = s.params)
    (hpackets : ∀ p ∈ t.inq ++ t.pend, p ∈ s.inq ++ s.pend) : StoresNoLogLine c t :=
  ⟨hpar.trans h.1, fun p hp => h.2 p (hpackets p hp)⟩

theorem of_same (h : StoresNoLogLine c s) (hpar : t.params = s.params) (hinq : t.inq = s.inq) (hpend : t.pend = s.pend) :
    StoresNoLogLine c t := h.of_fewer hpar (by simp [hinq, hpend])

theorem enqueue (h : StoresNoLogLine c s) {p : Packet} (hp : ¬IsLogLine c p) : StoresNoLogLine c (s.enqueue p) := by
  obtain ⟨-, e⟩ | ⟨-, e⟩ := s.enqueue_cases p <;> rw [e]
  · refine ⟨h.1, fun q hq => ?_⟩
    obtain hmem | rfl : q ∈ s.inq ++ s.pend ∨ q = p := by simpa [or_assoc, or_comm, or_left_comm] using hq
    · exact h.2 q hmem
    · exact hp
  · exact h.of_same rfl rfl rfl

theorem kept (c : Params) : KeptByReception (StoresNoLogLine c) where
  setDecoder _ _ _ _ h := h
  emitDiag _ _ h := h
  raiseRunt _ h := h
  enqueue _ _ hclass h := h.enqueue (not_isLogLine_of_store (h.1 ▸ hclass))

theorem drain (h : StoresNoLogLine c s) : StoresNoLogLine c s.drain :=
  h.of_fewer s.drain_params fun _ hp =>
    (List.mem_append.mp hp).elim (fun hq => List.mem_append_left _ (s.mem_drain_inq hq)) s.mem_drain_pend

theorem setPend (h : StoresNoLogLine c s) {q : List Packet} (hq : q.Sublist s.pend) : StoresNoLogLine c (s.setPend q) :=
  h.of_fewer rfl fun _ hp => (List.mem_append.mp hp).elim (List.mem_append_left _)
    fun hmem => List.mem_append_right _ (hq.subset hmem)

theorem afterTake (h : StoresNoLogLine c s) (k : Pick) : StoresNoLogLine c (s.afterTake k) :=
  h.drain.setPend List.eraseP_sublist

end StoresNoLogLine

variable {c : Params}

/-- The store's operations store nothing new. -/
theorem StoreEffect.storesNoLogLine (he : StoreEffect s i t) (h : StoresNoLogLine c s) : StoresNoLogLine c t := by
  cases he with
  | drained _ => exact h.drain.of_same rfl rfl rfl
  | taken k => exact (h.afterTake k).of_same rfl rfl rfl
  | polled k =>
    obtain ⟨p, -, e⟩ | ⟨-, -, e⟩ | ⟨n, -, -, e⟩ := s.poll_cases k i <;> rw [e]
    · exact (h.afterTake k).of_same rfl rfl rfl
    · exact h.drain.of_same (by simp) (by simp) (by simp)
    · exact h.drain.of_same (by simp) (by simp) (by simp)
  | cleaned cmd => exact h.drain.setPend List.filter_sublist

/-- A packet that a take finds was stored. -/
theorem State.mem_of_found {k : Pick} {p : Packet} (h : s.found k = some p) : p ∈ s.inq ++ s.pend :=
  s.mem_drain_pend (List.mem_of_find?_eq_some h)

theorem State.mem_of_takeResponse {k : Pick} {p : Packet} (h : s.takeResponse k = .packet p) : p ∈ s.inq ++ s.pend := by
  cases hfound : s.found k with
  | none => simp [State.takeResponse, hfound] at h
  | some q =>
    obtain rfl : q = p := by simpa [State.takeResponse, hfound] using h
    exact State.mem_of_found hfound

/-- A packet that an operation of the store answers was stored (R113). -/
theorem StoreEffect.answers_stored (he : StoreEffect s i t) {p : Packet} (hp : Response.packet p ∈ t.responses) :
    Response.packet p ∈ s.responses ∨ p ∈ s.inq ++ s.pend := by
  cases he with
  | drained _ => exact .inl (by simpa using hp)
  | taken k =>
    obtain hold | hnew : Response.packet p ∈ s.responses ∨ Response.packet p = s.takeResponse k := by simpa using hp
    · exact .inl hold
    · exact .inr (State.mem_of_takeResponse hnew.symm)
  | polled k =>
    obtain ⟨q, hq, e⟩ | ⟨-, -, e⟩ | ⟨n, -, -, e⟩ := s.poll_cases k i <;> rw [e] at hp
    · obtain hold | rfl : Response.packet p ∈ s.responses ∨ p = q := by simpa using hp
      · exact .inl hold
      · exact .inr (State.mem_of_found hq)
    · exact .inl (by simpa using hp)
    · exact .inl (by simpa using hp)
  | cleaned cmd => exact .inl (by simpa using hp)

/-- Settles O28: routing queues packets of the third class only, which are no log lines, and the store answers only what was
stored. -/
theorem logLinesNeverReachTheStore : Obligations.LogLinesNeverReachTheStore := by
  intro i s t logLine hline hi h hnone
  have hlog : ∀ p, logLine p ↔ IsLogLine s.params p := hline
  have hs : StoresNoLogLine s.params s := ⟨rfl, fun p hp => (hlog p).not.mp (hnone p hp)⟩
  have hstored (ht : StoresNoLogLine s.params t) : ∀ p ∈ t.inq ++ t.pend, ¬logLine p :=
    fun p hp => (hlog p).not.mpr (ht.2 p hp)
  rcases effect_of_exec h with hr | hst | hse
  · have ht : StoresNoLogLine s.params t := (StoresNoLogLine.kept _).effect hs hr fun p hp => absurd hp (hi p)
    exact ⟨hstored ht, fun p hp _ => hr.frame.responses ▸ hp⟩
  · exact ⟨hstored (hst.storesNoLogLine hs), fun p hp hl =>
      (hst.answers_stored hp).resolve_right fun hmem => hnone p hmem hl⟩
  · exact ⟨hstored (hs.of_same hse.frame.params hse.frame.inq hse.frame.pend), fun p hp _ => hse.frame.noPacket p hp⟩

/-! ## Construction, the step and the table words -/

/-- Settles O1: each element is read off the construction. -/
theorem constructionGivesTheResetValues : Obligations.ConstructionGivesTheResetValues :=
  fun _ _ => ⟨_, rfl, rfl, rfl, rfl, rfl, rfl, rfl, rfl, rfl, rfl, rfl, rfl, rfl, rfl, rfl⟩

/-- Settles O4: by the head of the requests and whether it is well formed. -/
theorem stepRunsTheNextRequest : Obligations.StepRunsTheNextRequest := by
  intro s
  refine ⟨step_of_idle, fun i rest hreq => ⟨step_of_request hreq, fun hw => ?_⟩⟩
  simp [step, hreq, hw]

/-- What is read as a whole frame coming in is well formed (R51). -/
theorem wellFormed_of_decode_inbound {bytes rest : Bytes} (h : decode .inbound bytes = .instr i rest) :
    i.wellFormed = true := by
  match bytes with
  | [] => simp [decode, decodeFrame] at h
  | [_] => simp [decode, decodeFrame] at h
  | m0 :: m1 :: after =>
    by_cases hmarker : m0 = marker0 ∧ m1 = marker1
    · match after with
      | [] => simp [decode, decodeFrame, hmarker] at h
      | len :: more =>
        by_cases hlong : more.length < len.toNat
        · simp [decode, decodeFrame, hmarker, hlong] at h
        · obtain ⟨rfl, -⟩ : Instr.frameRx (len :: more.take len.toNat) = i ∧ more.drop len.toNat = rest := by
            simpa [decode, decodeFrame, hmarker, hlong] using h
          simpa [Instr.wellFormed, rawFrameOk] using hlong
    · simp [decode, decodeFrame, hmarker] at h

/-- A table word of one byte is well formed (log entry 28). -/
theorem wellFormed_tableRow (b : Byte) : (tableRow b).wellFormed = true := by
  unfold tableRow
  split
  · rfl
  · split <;> rfl

/-- A table word is well formed, as a byte or as a frame coming in (log entry 28). -/
theorem wellFormed_of_decodeTableWord {nbits w : Nat} (h : decodeTableWord nbits w = some i) : i.wellFormed = true := by
  unfold decodeTableWord at h
  generalize wordBytes ((nbits + 7) / 8) w = bytes at h
  match bytes with
  | [] => cases h
  | [b] =>
    obtain rfl : tableRow b = i := by simpa using h
    exact wellFormed_tableRow b
  | b :: c :: more =>
    cases hdecode : decode .inbound (b :: c :: more ++ List.replicate longestFrame 0#8) with
    | rejected r =>
      simp only [hdecode] at h
      cases h
    | instr j rest =>
      simp only [hdecode, Option.some.injEq] at h
      subst h
      exact wellFormed_of_decode_inbound hdecode

theorem State.placeNext_requests (s : State) (i : Instr) : (s.placeNext i).requests = i :: s.requests := by
  cases i <;> rfl

theorem State.placeNext_frame (s : State) (i : Instr) : s.placeNext i = { s with
    connected := true
    rxState := (s.placeNext i).rxState
    rxBuf := (s.placeNext i).rxBuf
    rxLen := (s.placeNext i).rxLen
    requests := i :: s.requests } := by
  cases i <;> rfl

/-- Settles O5: a placed word is the head of the requests and well formed, so the next step executes it. -/
theorem placedWordRunsAtTheNextStep : Obligations.PlacedWordRunsAtTheNextStep := by
  intro s nbits w i h
  have hwf : i.wellFormed = true := wellFormed_of_decodeTableWord h
  have hplaced : s.withFetchWord nbits w = s.placeNext i := by simp [State.withFetchWord, h]
  rw [hplaced]
  exact ⟨hwf, step_of_request (s.placeNext_requests i) hwf, s.placeNext_frame i⟩

/-- Settles O6: the model reads each of the words written out. -/
theorem writtenWordsDecode : Obligations.WrittenWordsDecode := by
  unfold Obligations.WrittenWordsDecode
  decide

end Sys2Proof.Machine
end
